-- ==== Sys2Proof/Word.lean ====
section
/-! DEFINITION. The two word types of the CORE: the 8-bit byte that every register slot and every bus access
holds (R8, R124), and the 16-bit word of PC, SP, the register pairs and addresses (R8, R121). -/

namespace Sys2Proof

/-- An 8-bit value: a register slot, a memory byte, an immediate byte (R8). -/
abbrev Byte := BitVec 8

/-- A 16-bit value: PC, SP, a register pair, an address (R8, R121). -/
abbrev Word := BitVec 16

end Sys2Proof
end

