-- ==== Sys2Proof/Syntax.lean ====
section
/-! DEFINITION. The syntax of the SM83 instruction set: the operand classes of R322 and R323, and `Instr`, one
constructor for each of the 512 rows of spec/opcode_table.json (R326, R329, R332).

The table has one row per concrete opcode byte, so register, pair, condition, bit and vector fields are part of the
constructor's name. The immediate operands (R324) are its arguments: `n` an unsigned byte, `e` the raw byte of a signed
displacement, `nn` a 16-bit word. A parenthesised operand `(X)` of R333 is spelt `mX` in a constructor's name, `(HL+)` is
`mHLinc`, `(HL-)` is `mHLdec` and `SP+e` is `SP_e`.

After `Instr` stand the row families by operand: for example `Instr.ldReg d s` is the row `LD d,s`. They only name rows. -/

namespace Sys2Proof

/-- The register operand of a 3-bit register code other than 6 (R322): codes 0 B, 1 C, 2 D, 3 E, 4 H, 5 L, 7 A. -/
inductive Reg8 where
  | b | c | d | e | h | l | a
deriving DecidableEq, Repr

/-- The pair of a `dd` field (R322): 0 BC, 1 DE, 2 HL, 3 SP. -/
inductive Pair where
  | bc | de | hl | sp
deriving DecidableEq, Repr

/-- The pair of a `qq` field, PUSH and POP (R322): 0 BC, 1 DE, 2 HL, 3 AF. -/
inductive QPair where
  | bc | de | hl | af
deriving DecidableEq, Repr

/-- A condition code (R323): 0 NZ, 1 Z, 2 NC, 3 C. -/
inductive Cond where
  | nz | z | nc | c
deriving DecidableEq, Repr

/-- The eight 8-bit ALU functions, in the order of `op[5:3]` (43_alu8.md section 2). -/
inductive AluOp where
  | add | adc | sub | sbc | and | xor | or | cp
deriving DecidableEq, Repr

/-- The eight CB rotate and shift functions, in the order of `cb[5:3]` (R322). -/
inductive RotOp where
  | rlc | rrc | rl | rr | sla | sra | swap | srl
deriving DecidableEq, Repr

/-- The instructions: one constructor per row of spec/opcode_table.json. The comment of each gives the row's encoding
and its rule. The rows with an immediate operand stand first, then the others, each part in the table's order (Lean's
runtime wants the constructors with arguments among the first 244). -/
inductive Instr where
  | LD_BC_nn (nn : Word)  -- LD BC,nn: 01, R431
  | LD_B_n (n : Byte)  -- LD B,n: 06, R402
  | LD_mnn_SP (nn : Word)  -- LD (nn),SP: 08, R432
  | LD_C_n (n : Byte)  -- LD C,n: 0E, R402
  | LD_DE_nn (nn : Word)  -- LD DE,nn: 11, R431
  | LD_D_n (n : Byte)  -- LD D,n: 16, R402
  | JR_e (e : Byte)  -- JR e: 18, R554
  | LD_E_n (n : Byte)  -- LD E,n: 1E, R402
  | JR_NZ_e (e : Byte)  -- JR NZ,e: 20, R555
  | LD_HL_nn (nn : Word)  -- LD HL,nn: 21, R431
  | LD_H_n (n : Byte)  -- LD H,n: 26, R402
  | JR_Z_e (e : Byte)  -- JR Z,e: 28, R555
  | LD_L_n (n : Byte)  -- LD L,n: 2E, R402
  | JR_NC_e (e : Byte)  -- JR NC,e: 30, R555
  | LD_SP_nn (nn : Word)  -- LD SP,nn: 31, R431
  | LD_mHL_n (n : Byte)  -- LD (HL),n: 36, R405
  | JR_C_e (e : Byte)  -- JR C,e: 38, R555
  | LD_A_n (n : Byte)  -- LD A,n: 3E, R402
  | JP_NZ_nn (nn : Word)  -- JP NZ,nn: C2, R552
  | JP_nn (nn : Word)  -- JP nn: C3, R551
  | CALL_NZ_nn (nn : Word)  -- CALL NZ,nn: C4, R557
  | ADD_A_n (n : Byte)  -- ADD A,n: C6, R475
  | JP_Z_nn (nn : Word)  -- JP Z,nn: CA, R552
  | CALL_Z_nn (nn : Word)  -- CALL Z,nn: CC, R557
  | CALL_nn (nn : Word)  -- CALL nn: CD, R556
  | ADC_A_n (n : Byte)  -- ADC A,n: CE, R476
  | JP_NC_nn (nn : Word)  -- JP NC,nn: D2, R552
  | CALL_NC_nn (nn : Word)  -- CALL NC,nn: D4, R557
  | SUB_A_n (n : Byte)  -- SUB A,n: D6, R477
  | JP_C_nn (nn : Word)  -- JP C,nn: DA, R552
  | CALL_C_nn (nn : Word)  -- CALL C,nn: DC, R557
  | SBC_A_n (n : Byte)  -- SBC A,n: DE, R478
  | LDH_mn_A (n : Byte)  -- LDH (n),A: E0, R413
  | AND_A_n (n : Byte)  -- AND A,n: E6, R479
  | ADD_SP_e (e : Byte)  -- ADD SP,e: E8, R504
  | LD_mnn_A (nn : Word)  -- LD (nn),A: EA, R411
  | XOR_A_n (n : Byte)  -- XOR A,n: EE, R480
  | LDH_A_mn (n : Byte)  -- LDH A,(n): F0, R412
  | OR_A_n (n : Byte)  -- OR A,n: F6, R481
  | LD_HL_SP_e (e : Byte)  -- LD HL,SP+e: F8, R436
  | LD_A_mnn (nn : Word)  -- LD A,(nn): FA, R410
  | CP_A_n (n : Byte)  -- CP A,n: FE, R482
  | NOP  -- NOP: 00, R571
  | LD_mBC_A  -- LD (BC),A: 02, R408
  | INC_BC  -- INC BC: 03, R502
  | INC_B  -- INC B: 04, R483
  | DEC_B  -- DEC B: 05, R484
  | RLCA  -- RLCA: 07, R511
  | ADD_HL_BC  -- ADD HL,BC: 09, R501
  | LD_A_mBC  -- LD A,(BC): 0A, R406
  | DEC_BC  -- DEC BC: 0B, R503
  | INC_C  -- INC C: 0C, R483
  | DEC_C  -- DEC C: 0D, R484
  | RRCA  -- RRCA: 0F, R512
  | STOP  -- STOP: 10, R573
  | LD_mDE_A  -- LD (DE),A: 12, R409
  | INC_DE  -- INC DE: 13, R502
  | INC_D  -- INC D: 14, R483
  | DEC_D  -- DEC D: 15, R484
  | RLA  -- RLA: 17, R513
  | ADD_HL_DE  -- ADD HL,DE: 19, R501
  | LD_A_mDE  -- LD A,(DE): 1A, R407
  | DEC_DE  -- DEC DE: 1B, R503
  | INC_E  -- INC E: 1C, R483
  | DEC_E  -- DEC E: 1D, R484
  | RRA  -- RRA: 1F, R514
  | LD_mHLinc_A  -- LD (HL+),A: 22, R418
  | INC_HL  -- INC HL: 23, R502
  | INC_H  -- INC H: 24, R483
  | DEC_H  -- DEC H: 25, R484
  | DAA  -- DAA: 27, R487
  | ADD_HL_HL  -- ADD HL,HL: 29, R501
  | LD_A_mHLinc  -- LD A,(HL+): 2A, R416
  | DEC_HL  -- DEC HL: 2B, R503
  | INC_L  -- INC L: 2C, R483
  | DEC_L  -- DEC L: 2D, R484
  | CPL  -- CPL: 2F, R488
  | LD_mHLdec_A  -- LD (HL-),A: 32, R419
  | INC_SP  -- INC SP: 33, R502
  | INC_mHL  -- INC (HL): 34, R485
  | DEC_mHL  -- DEC (HL): 35, R486
  | SCF  -- SCF: 37, R489
  | ADD_HL_SP  -- ADD HL,SP: 39, R501
  | LD_A_mHLdec  -- LD A,(HL-): 3A, R417
  | DEC_SP  -- DEC SP: 3B, R503
  | INC_A  -- INC A: 3C, R483
  | DEC_A  -- DEC A: 3D, R484
  | CCF  -- CCF: 3F, R490
  | LD_B_B  -- LD B,B: 40, R401
  | LD_B_C  -- LD B,C: 41, R401
  | LD_B_D  -- LD B,D: 42, R401
  | LD_B_E  -- LD B,E: 43, R401
  | LD_B_H  -- LD B,H: 44, R401
  | LD_B_L  -- LD B,L: 45, R401
  | LD_B_mHL  -- LD B,(HL): 46, R403
  | LD_B_A  -- LD B,A: 47, R401
  | LD_C_B  -- LD C,B: 48, R401
  | LD_C_C  -- LD C,C: 49, R401
  | LD_C_D  -- LD C,D: 4A, R401
  | LD_C_E  -- LD C,E: 4B, R401
  | LD_C_H  -- LD C,H: 4C, R401
  | LD_C_L  -- LD C,L: 4D, R401
  | LD_C_mHL  -- LD C,(HL): 4E, R403
  | LD_C_A  -- LD C,A: 4F, R401
  | LD_D_B  -- LD D,B: 50, R401
  | LD_D_C  -- LD D,C: 51, R401
  | LD_D_D  -- LD D,D: 52, R401
  | LD_D_E  -- LD D,E: 53, R401
  | LD_D_H  -- LD D,H: 54, R401
  | LD_D_L  -- LD D,L: 55, R401
  | LD_D_mHL  -- LD D,(HL): 56, R403
  | LD_D_A  -- LD D,A: 57, R401
  | LD_E_B  -- LD E,B: 58, R401
  | LD_E_C  -- LD E,C: 59, R401
  | LD_E_D  -- LD E,D: 5A, R401
  | LD_E_E  -- LD E,E: 5B, R401
  | LD_E_H  -- LD E,H: 5C, R401
  | LD_E_L  -- LD E,L: 5D, R401
  | LD_E_mHL  -- LD E,(HL): 5E, R403
  | LD_E_A  -- LD E,A: 5F, R401
  | LD_H_B  -- LD H,B: 60, R401
  | LD_H_C  -- LD H,C: 61, R401
  | LD_H_D  -- LD H,D: 62, R401
  | LD_H_E  -- LD H,E: 63, R401
  | LD_H_H  -- LD H,H: 64, R401
  | LD_H_L  -- LD H,L: 65, R401
  | LD_H_mHL  -- LD H,(HL): 66, R403
  | LD_H_A  -- LD H,A: 67, R401
  | LD_L_B  -- LD L,B: 68, R401
  | LD_L_C  -- LD L,C: 69, R401
  | LD_L_D  -- LD L,D: 6A, R401
  | LD_L_E  -- LD L,E: 6B, R401
  | LD_L_H  -- LD L,H: 6C, R401
  | LD_L_L  -- LD L,L: 6D, R401
  | LD_L_mHL  -- LD L,(HL): 6E, R403
  | LD_L_A  -- LD L,A: 6F, R401
  | LD_mHL_B  -- LD (HL),B: 70, R404
  | LD_mHL_C  -- LD (HL),C: 71, R404
  | LD_mHL_D  -- LD (HL),D: 72, R404
  | LD_mHL_E  -- LD (HL),E: 73, R404
  | LD_mHL_H  -- LD (HL),H: 74, R404
  | LD_mHL_L  -- LD (HL),L: 75, R404
  | HALT  -- HALT: 76, R572
  | LD_mHL_A  -- LD (HL),A: 77, R404
  | LD_A_B  -- LD A,B: 78, R401
  | LD_A_C  -- LD A,C: 79, R401
  | LD_A_D  -- LD A,D: 7A, R401
  | LD_A_E  -- LD A,E: 7B, R401
  | LD_A_H  -- LD A,H: 7C, R401
  | LD_A_L  -- LD A,L: 7D, R401
  | LD_A_mHL  -- LD A,(HL): 7E, R403
  | LD_A_A  -- LD A,A: 7F, R401
  | ADD_A_B  -- ADD A,B: 80, R459
  | ADD_A_C  -- ADD A,C: 81, R459
  | ADD_A_D  -- ADD A,D: 82, R459
  | ADD_A_E  -- ADD A,E: 83, R459
  | ADD_A_H  -- ADD A,H: 84, R459
  | ADD_A_L  -- ADD A,L: 85, R459
  | ADD_A_mHL  -- ADD A,(HL): 86, R467
  | ADD_A_A  -- ADD A,A: 87, R459
  | ADC_A_B  -- ADC A,B: 88, R460
  | ADC_A_C  -- ADC A,C: 89, R460
  | ADC_A_D  -- ADC A,D: 8A, R460
  | ADC_A_E  -- ADC A,E: 8B, R460
  | ADC_A_H  -- ADC A,H: 8C, R460
  | ADC_A_L  -- ADC A,L: 8D, R460
  | ADC_A_mHL  -- ADC A,(HL): 8E, R468
  | ADC_A_A  -- ADC A,A: 8F, R460
  | SUB_A_B  -- SUB A,B: 90, R461
  | SUB_A_C  -- SUB A,C: 91, R461
  | SUB_A_D  -- SUB A,D: 92, R461
  | SUB_A_E  -- SUB A,E: 93, R461
  | SUB_A_H  -- SUB A,H: 94, R461
  | SUB_A_L  -- SUB A,L: 95, R461
  | SUB_A_mHL  -- SUB A,(HL): 96, R469
  | SUB_A_A  -- SUB A,A: 97, R461
  | SBC_A_B  -- SBC A,B: 98, R462
  | SBC_A_C  -- SBC A,C: 99, R462
  | SBC_A_D  -- SBC A,D: 9A, R462
  | SBC_A_E  -- SBC A,E: 9B, R462
  | SBC_A_H  -- SBC A,H: 9C, R462
  | SBC_A_L  -- SBC A,L: 9D, R462
  | SBC_A_mHL  -- SBC A,(HL): 9E, R470
  | SBC_A_A  -- SBC A,A: 9F, R462
  | AND_A_B  -- AND A,B: A0, R463
  | AND_A_C  -- AND A,C: A1, R463
  | AND_A_D  -- AND A,D: A2, R463
  | AND_A_E  -- AND A,E: A3, R463
  | AND_A_H  -- AND A,H: A4, R463
  | AND_A_L  -- AND A,L: A5, R463
  | AND_A_mHL  -- AND A,(HL): A6, R471
  | AND_A_A  -- AND A,A: A7, R463
  | XOR_A_B  -- XOR A,B: A8, R464
  | XOR_A_C  -- XOR A,C: A9, R464
  | XOR_A_D  -- XOR A,D: AA, R464
  | XOR_A_E  -- XOR A,E: AB, R464
  | XOR_A_H  -- XOR A,H: AC, R464
  | XOR_A_L  -- XOR A,L: AD, R464
  | XOR_A_mHL  -- XOR A,(HL): AE, R472
  | XOR_A_A  -- XOR A,A: AF, R464
  | OR_A_B  -- OR A,B: B0, R465
  | OR_A_C  -- OR A,C: B1, R465
  | OR_A_D  -- OR A,D: B2, R465
  | OR_A_E  -- OR A,E: B3, R465
  | OR_A_H  -- OR A,H: B4, R465
  | OR_A_L  -- OR A,L: B5, R465
  | OR_A_mHL  -- OR A,(HL): B6, R473
  | OR_A_A  -- OR A,A: B7, R465
  | CP_A_B  -- CP A,B: B8, R466
  | CP_A_C  -- CP A,C: B9, R466
  | CP_A_D  -- CP A,D: BA, R466
  | CP_A_E  -- CP A,E: BB, R466
  | CP_A_H  -- CP A,H: BC, R466
  | CP_A_L  -- CP A,L: BD, R466
  | CP_A_mHL  -- CP A,(HL): BE, R474
  | CP_A_A  -- CP A,A: BF, R466
  | RET_NZ  -- RET NZ: C0, R559
  | POP_BC  -- POP BC: C1, R435
  | PUSH_BC  -- PUSH BC: C5, R434
  | RST_00H  -- RST 00H: C7, R561
  | RET_Z  -- RET Z: C8, R559
  | RET  -- RET: C9, R558
  | PREFIX_CB  -- PREFIX CB: CB, R367
  | RST_08H  -- RST 08H: CF, R561
  | RET_NC  -- RET NC: D0, R559
  | POP_DE  -- POP DE: D1, R435
  | illegal_0xD3  -- illegal 0xD3: D3, R370
  | PUSH_DE  -- PUSH DE: D5, R434
  | RST_10H  -- RST 10H: D7, R561
  | RET_C  -- RET C: D8, R559
  | RETI  -- RETI: D9, R560
  | illegal_0xDB  -- illegal 0xDB: DB, R370
  | illegal_0xDD  -- illegal 0xDD: DD, R370
  | RST_18H  -- RST 18H: DF, R561
  | POP_HL  -- POP HL: E1, R435
  | LD_mC_A  -- LD (C),A: E2, R415
  | illegal_0xE3  -- illegal 0xE3: E3, R370
  | illegal_0xE4  -- illegal 0xE4: E4, R370
  | PUSH_HL  -- PUSH HL: E5, R434
  | RST_20H  -- RST 20H: E7, R561
  | JP_HL  -- JP HL: E9, R553
  | illegal_0xEB  -- illegal 0xEB: EB, R370
  | illegal_0xEC  -- illegal 0xEC: EC, R370
  | illegal_0xED  -- illegal 0xED: ED, R370
  | RST_28H  -- RST 28H: EF, R561
  | POP_AF  -- POP AF: F1, R435
  | LD_A_mC  -- LD A,(C): F2, R414
  | DI  -- DI: F3, R574
  | illegal_0xF4  -- illegal 0xF4: F4, R370
  | PUSH_AF  -- PUSH AF: F5, R434
  | RST_30H  -- RST 30H: F7, R561
  | LD_SP_HL  -- LD SP,HL: F9, R433
  | EI  -- EI: FB, R575
  | illegal_0xFC  -- illegal 0xFC: FC, R370
  | illegal_0xFD  -- illegal 0xFD: FD, R370
  | RST_38H  -- RST 38H: FF, R561
  | RLC_B  -- RLC B: CB 00, R523
  | RLC_C  -- RLC C: CB 01, R523
  | RLC_D  -- RLC D: CB 02, R523
  | RLC_E  -- RLC E: CB 03, R523
  | RLC_H  -- RLC H: CB 04, R523
  | RLC_L  -- RLC L: CB 05, R523
  | RLC_mHL  -- RLC (HL): CB 06, R531
  | RLC_A  -- RLC A: CB 07, R523
  | RRC_B  -- RRC B: CB 08, R524
  | RRC_C  -- RRC C: CB 09, R524
  | RRC_D  -- RRC D: CB 0A, R524
  | RRC_E  -- RRC E: CB 0B, R524
  | RRC_H  -- RRC H: CB 0C, R524
  | RRC_L  -- RRC L: CB 0D, R524
  | RRC_mHL  -- RRC (HL): CB 0E, R532
  | RRC_A  -- RRC A: CB 0F, R524
  | RL_B  -- RL B: CB 10, R525
  | RL_C  -- RL C: CB 11, R525
  | RL_D  -- RL D: CB 12, R525
  | RL_E  -- RL E: CB 13, R525
  | RL_H  -- RL H: CB 14, R525
  | RL_L  -- RL L: CB 15, R525
  | RL_mHL  -- RL (HL): CB 16, R533
  | RL_A  -- RL A: CB 17, R525
  | RR_B  -- RR B: CB 18, R526
  | RR_C  -- RR C: CB 19, R526
  | RR_D  -- RR D: CB 1A, R526
  | RR_E  -- RR E: CB 1B, R526
  | RR_H  -- RR H: CB 1C, R526
  | RR_L  -- RR L: CB 1D, R526
  | RR_mHL  -- RR (HL): CB 1E, R534
  | RR_A  -- RR A: CB 1F, R526
  | SLA_B  -- SLA B: CB 20, R527
  | SLA_C  -- SLA C: CB 21, R527
  | SLA_D  -- SLA D: CB 22, R527
  | SLA_E  -- SLA E: CB 23, R527
  | SLA_H  -- SLA H: CB 24, R527
  | SLA_L  -- SLA L: CB 25, R527
  | SLA_mHL  -- SLA (HL): CB 26, R535
  | SLA_A  -- SLA A: CB 27, R527
  | SRA_B  -- SRA B: CB 28, R528
  | SRA_C  -- SRA C: CB 29, R528
  | SRA_D  -- SRA D: CB 2A, R528
  | SRA_E  -- SRA E: CB 2B, R528
  | SRA_H  -- SRA H: CB 2C, R528
  | SRA_L  -- SRA L: CB 2D, R528
  | SRA_mHL  -- SRA (HL): CB 2E, R536
  | SRA_A  -- SRA A: CB 2F, R528
  | SWAP_B  -- SWAP B: CB 30, R529
  | SWAP_C  -- SWAP C: CB 31, R529
  | SWAP_D  -- SWAP D: CB 32, R529
  | SWAP_E  -- SWAP E: CB 33, R529
  | SWAP_H  -- SWAP H: CB 34, R529
  | SWAP_L  -- SWAP L: CB 35, R529
  | SWAP_mHL  -- SWAP (HL): CB 36, R537
  | SWAP_A  -- SWAP A: CB 37, R529
  | SRL_B  -- SRL B: CB 38, R530
  | SRL_C  -- SRL C: CB 39, R530
  | SRL_D  -- SRL D: CB 3A, R530
  | SRL_E  -- SRL E: CB 3B, R530
  | SRL_H  -- SRL H: CB 3C, R530
  | SRL_L  -- SRL L: CB 3D, R530
  | SRL_mHL  -- SRL (HL): CB 3E, R538
  | SRL_A  -- SRL A: CB 3F, R530
  | BIT_0_B  -- BIT 0,B: CB 40, R539
  | BIT_0_C  -- BIT 0,C: CB 41, R539
  | BIT_0_D  -- BIT 0,D: CB 42, R539
  | BIT_0_E  -- BIT 0,E: CB 43, R539
  | BIT_0_H  -- BIT 0,H: CB 44, R539
  | BIT_0_L  -- BIT 0,L: CB 45, R539
  | BIT_0_mHL  -- BIT 0,(HL): CB 46, R540
  | BIT_0_A  -- BIT 0,A: CB 47, R539
  | BIT_1_B  -- BIT 1,B: CB 48, R539
  | BIT_1_C  -- BIT 1,C: CB 49, R539
  | BIT_1_D  -- BIT 1,D: CB 4A, R539
  | BIT_1_E  -- BIT 1,E: CB 4B, R539
  | BIT_1_H  -- BIT 1,H: CB 4C, R539
  | BIT_1_L  -- BIT 1,L: CB 4D, R539
  | BIT_1_mHL  -- BIT 1,(HL): CB 4E, R540
  | BIT_1_A  -- BIT 1,A: CB 4F, R539
  | BIT_2_B  -- BIT 2,B: CB 50, R539
  | BIT_2_C  -- BIT 2,C: CB 51, R539
  | BIT_2_D  -- BIT 2,D: CB 52, R539
  | BIT_2_E  -- BIT 2,E: CB 53, R539
  | BIT_2_H  -- BIT 2,H: CB 54, R539
  | BIT_2_L  -- BIT 2,L: CB 55, R539
  | BIT_2_mHL  -- BIT 2,(HL): CB 56, R540
  | BIT_2_A  -- BIT 2,A: CB 57, R539
  | BIT_3_B  -- BIT 3,B: CB 58, R539
  | BIT_3_C  -- BIT 3,C: CB 59, R539
  | BIT_3_D  -- BIT 3,D: CB 5A, R539
  | BIT_3_E  -- BIT 3,E: CB 5B, R539
  | BIT_3_H  -- BIT 3,H: CB 5C, R539
  | BIT_3_L  -- BIT 3,L: CB 5D, R539
  | BIT_3_mHL  -- BIT 3,(HL): CB 5E, R540
  | BIT_3_A  -- BIT 3,A: CB 5F, R539
  | BIT_4_B  -- BIT 4,B: CB 60, R539
  | BIT_4_C  -- BIT 4,C: CB 61, R539
  | BIT_4_D  -- BIT 4,D: CB 62, R539
  | BIT_4_E  -- BIT 4,E: CB 63, R539
  | BIT_4_H  -- BIT 4,H: CB 64, R539
  | BIT_4_L  -- BIT 4,L: CB 65, R539
  | BIT_4_mHL  -- BIT 4,(HL): CB 66, R540
  | BIT_4_A  -- BIT 4,A: CB 67, R539
  | BIT_5_B  -- BIT 5,B: CB 68, R539
  | BIT_5_C  -- BIT 5,C: CB 69, R539
  | BIT_5_D  -- BIT 5,D: CB 6A, R539
  | BIT_5_E  -- BIT 5,E: CB 6B, R539
  | BIT_5_H  -- BIT 5,H: CB 6C, R539
  | BIT_5_L  -- BIT 5,L: CB 6D, R539
  | BIT_5_mHL  -- BIT 5,(HL): CB 6E, R540
  | BIT_5_A  -- BIT 5,A: CB 6F, R539
  | BIT_6_B  -- BIT 6,B: CB 70, R539
  | BIT_6_C  -- BIT 6,C: CB 71, R539
  | BIT_6_D  -- BIT 6,D: CB 72, R539
  | BIT_6_E  -- BIT 6,E: CB 73, R539
  | BIT_6_H  -- BIT 6,H: CB 74, R539
  | BIT_6_L  -- BIT 6,L: CB 75, R539
  | BIT_6_mHL  -- BIT 6,(HL): CB 76, R540
  | BIT_6_A  -- BIT 6,A: CB 77, R539
  | BIT_7_B  -- BIT 7,B: CB 78, R539
  | BIT_7_C  -- BIT 7,C: CB 79, R539
  | BIT_7_D  -- BIT 7,D: CB 7A, R539
  | BIT_7_E  -- BIT 7,E: CB 7B, R539
  | BIT_7_H  -- BIT 7,H: CB 7C, R539
  | BIT_7_L  -- BIT 7,L: CB 7D, R539
  | BIT_7_mHL  -- BIT 7,(HL): CB 7E, R540
  | BIT_7_A  -- BIT 7,A: CB 7F, R539
  | RES_0_B  -- RES 0,B: CB 80, R541
  | RES_0_C  -- RES 0,C: CB 81, R541
  | RES_0_D  -- RES 0,D: CB 82, R541
  | RES_0_E  -- RES 0,E: CB 83, R541
  | RES_0_H  -- RES 0,H: CB 84, R541
  | RES_0_L  -- RES 0,L: CB 85, R541
  | RES_0_mHL  -- RES 0,(HL): CB 86, R542
  | RES_0_A  -- RES 0,A: CB 87, R541
  | RES_1_B  -- RES 1,B: CB 88, R541
  | RES_1_C  -- RES 1,C: CB 89, R541
  | RES_1_D  -- RES 1,D: CB 8A, R541
  | RES_1_E  -- RES 1,E: CB 8B, R541
  | RES_1_H  -- RES 1,H: CB 8C, R541
  | RES_1_L  -- RES 1,L: CB 8D, R541
  | RES_1_mHL  -- RES 1,(HL): CB 8E, R542
  | RES_1_A  -- RES 1,A: CB 8F, R541
  | RES_2_B  -- RES 2,B: CB 90, R541
  | RES_2_C  -- RES 2,C: CB 91, R541
  | RES_2_D  -- RES 2,D: CB 92, R541
  | RES_2_E  -- RES 2,E: CB 93, R541
  | RES_2_H  -- RES 2,H: CB 94, R541
  | RES_2_L  -- RES 2,L: CB 95, R541
  | RES_2_mHL  -- RES 2,(HL): CB 96, R542
  | RES_2_A  -- RES 2,A: CB 97, R541
  | RES_3_B  -- RES 3,B: CB 98, R541
  | RES_3_C  -- RES 3,C: CB 99, R541
  | RES_3_D  -- RES 3,D: CB 9A, R541
  | RES_3_E  -- RES 3,E: CB 9B, R541
  | RES_3_H  -- RES 3,H: CB 9C, R541
  | RES_3_L  -- RES 3,L: CB 9D, R541
  | RES_3_mHL  -- RES 3,(HL): CB 9E, R542
  | RES_3_A  -- RES 3,A: CB 9F, R541
  | RES_4_B  -- RES 4,B: CB A0, R541
  | RES_4_C  -- RES 4,C: CB A1, R541
  | RES_4_D  -- RES 4,D: CB A2, R541
  | RES_4_E  -- RES 4,E: CB A3, R541
  | RES_4_H  -- RES 4,H: CB A4, R541
  | RES_4_L  -- RES 4,L: CB A5, R541
  | RES_4_mHL  -- RES 4,(HL): CB A6, R542
  | RES_4_A  -- RES 4,A: CB A7, R541
  | RES_5_B  -- RES 5,B: CB A8, R541
  | RES_5_C  -- RES 5,C: CB A9, R541
  | RES_5_D  -- RES 5,D: CB AA, R541
  | RES_5_E  -- RES 5,E: CB AB, R541
  | RES_5_H  -- RES 5,H: CB AC, R541
  | RES_5_L  -- RES 5,L: CB AD, R541
  | RES_5_mHL  -- RES 5,(HL): CB AE, R542
  | RES_5_A  -- RES 5,A: CB AF, R541
  | RES_6_B  -- RES 6,B: CB B0, R541
  | RES_6_C  -- RES 6,C: CB B1, R541
  | RES_6_D  -- RES 6,D: CB B2, R541
  | RES_6_E  -- RES 6,E: CB B3, R541
  | RES_6_H  -- RES 6,H: CB B4, R541
  | RES_6_L  -- RES 6,L: CB B5, R541
  | RES_6_mHL  -- RES 6,(HL): CB B6, R542
  | RES_6_A  -- RES 6,A: CB B7, R541
  | RES_7_B  -- RES 7,B: CB B8, R541
  | RES_7_C  -- RES 7,C: CB B9, R541
  | RES_7_D  -- RES 7,D: CB BA, R541
  | RES_7_E  -- RES 7,E: CB BB, R541
  | RES_7_H  -- RES 7,H: CB BC, R541
  | RES_7_L  -- RES 7,L: CB BD, R541
  | RES_7_mHL  -- RES 7,(HL): CB BE, R542
  | RES_7_A  -- RES 7,A: CB BF, R541
  | SET_0_B  -- SET 0,B: CB C0, R543
  | SET_0_C  -- SET 0,C: CB C1, R543
  | SET_0_D  -- SET 0,D: CB C2, R543
  | SET_0_E  -- SET 0,E: CB C3, R543
  | SET_0_H  -- SET 0,H: CB C4, R543
  | SET_0_L  -- SET 0,L: CB C5, R543
  | SET_0_mHL  -- SET 0,(HL): CB C6, R544
  | SET_0_A  -- SET 0,A: CB C7, R543
  | SET_1_B  -- SET 1,B: CB C8, R543
  | SET_1_C  -- SET 1,C: CB C9, R543
  | SET_1_D  -- SET 1,D: CB CA, R543
  | SET_1_E  -- SET 1,E: CB CB, R543
  | SET_1_H  -- SET 1,H: CB CC, R543
  | SET_1_L  -- SET 1,L: CB CD, R543
  | SET_1_mHL  -- SET 1,(HL): CB CE, R544
  | SET_1_A  -- SET 1,A: CB CF, R543
  | SET_2_B  -- SET 2,B: CB D0, R543
  | SET_2_C  -- SET 2,C: CB D1, R543
  | SET_2_D  -- SET 2,D: CB D2, R543
  | SET_2_E  -- SET 2,E: CB D3, R543
  | SET_2_H  -- SET 2,H: CB D4, R543
  | SET_2_L  -- SET 2,L: CB D5, R543
  | SET_2_mHL  -- SET 2,(HL): CB D6, R544
  | SET_2_A  -- SET 2,A: CB D7, R543
  | SET_3_B  -- SET 3,B: CB D8, R543
  | SET_3_C  -- SET 3,C: CB D9, R543
  | SET_3_D  -- SET 3,D: CB DA, R543
  | SET_3_E  -- SET 3,E: CB DB, R543
  | SET_3_H  -- SET 3,H: CB DC, R543
  | SET_3_L  -- SET 3,L: CB DD, R543
  | SET_3_mHL  -- SET 3,(HL): CB DE, R544
  | SET_3_A  -- SET 3,A: CB DF, R543
  | SET_4_B  -- SET 4,B: CB E0, R543
  | SET_4_C  -- SET 4,C: CB E1, R543
  | SET_4_D  -- SET 4,D: CB E2, R543
  | SET_4_E  -- SET 4,E: CB E3, R543
  | SET_4_H  -- SET 4,H: CB E4, R543
  | SET_4_L  -- SET 4,L: CB E5, R543
  | SET_4_mHL  -- SET 4,(HL): CB E6, R544
  | SET_4_A  -- SET 4,A: CB E7, R543
  | SET_5_B  -- SET 5,B: CB E8, R543
  | SET_5_C  -- SET 5,C: CB E9, R543
  | SET_5_D  -- SET 5,D: CB EA, R543
  | SET_5_E  -- SET 5,E: CB EB, R543
  | SET_5_H  -- SET 5,H: CB EC, R543
  | SET_5_L  -- SET 5,L: CB ED, R543
  | SET_5_mHL  -- SET 5,(HL): CB EE, R544
  | SET_5_A  -- SET 5,A: CB EF, R543
  | SET_6_B  -- SET 6,B: CB F0, R543
  | SET_6_C  -- SET 6,C: CB F1, R543
  | SET_6_D  -- SET 6,D: CB F2, R543
  | SET_6_E  -- SET 6,E: CB F3, R543
  | SET_6_H  -- SET 6,H: CB F4, R543
  | SET_6_L  -- SET 6,L: CB F5, R543
  | SET_6_mHL  -- SET 6,(HL): CB F6, R544
  | SET_6_A  -- SET 6,A: CB F7, R543
  | SET_7_B  -- SET 7,B: CB F8, R543
  | SET_7_C  -- SET 7,C: CB F9, R543
  | SET_7_D  -- SET 7,D: CB FA, R543
  | SET_7_E  -- SET 7,E: CB FB, R543
  | SET_7_H  -- SET 7,H: CB FC, R543
  | SET_7_L  -- SET 7,L: CB FD, R543
  | SET_7_mHL  -- SET 7,(HL): CB FE, R544
  | SET_7_A  -- SET 7,A: CB FF, R543
deriving DecidableEq, Repr

/-- The 49 rows `LD r,r'` (R401), destination first. -/
def Instr.ldReg : Reg8 → Reg8 → Instr
  | .b, .b => .LD_B_B
  | .b, .c => .LD_B_C
  | .b, .d => .LD_B_D
  | .b, .e => .LD_B_E
  | .b, .h => .LD_B_H
  | .b, .l => .LD_B_L
  | .b, .a => .LD_B_A
  | .c, .b => .LD_C_B
  | .c, .c => .LD_C_C
  | .c, .d => .LD_C_D
  | .c, .e => .LD_C_E
  | .c, .h => .LD_C_H
  | .c, .l => .LD_C_L
  | .c, .a => .LD_C_A
  | .d, .b => .LD_D_B
  | .d, .c => .LD_D_C
  | .d, .d => .LD_D_D
  | .d, .e => .LD_D_E
  | .d, .h => .LD_D_H
  | .d, .l => .LD_D_L
  | .d, .a => .LD_D_A
  | .e, .b => .LD_E_B
  | .e, .c => .LD_E_C
  | .e, .d => .LD_E_D
  | .e, .e => .LD_E_E
  | .e, .h => .LD_E_H
  | .e, .l => .LD_E_L
  | .e, .a => .LD_E_A
  | .h, .b => .LD_H_B
  | .h, .c => .LD_H_C
  | .h, .d => .LD_H_D
  | .h, .e => .LD_H_E
  | .h, .h => .LD_H_H
  | .h, .l => .LD_H_L
  | .h, .a => .LD_H_A
  | .l, .b => .LD_L_B
  | .l, .c => .LD_L_C
  | .l, .d => .LD_L_D
  | .l, .e => .LD_L_E
  | .l, .h => .LD_L_H
  | .l, .l => .LD_L_L
  | .l, .a => .LD_L_A
  | .a, .b => .LD_A_B
  | .a, .c => .LD_A_C
  | .a, .d => .LD_A_D
  | .a, .e => .LD_A_E
  | .a, .h => .LD_A_H
  | .a, .l => .LD_A_L
  | .a, .a => .LD_A_A

/-- The rows `LD r,n` (R402). -/
def Instr.ldImm : Reg8 → Byte → Instr
  | .b, n => .LD_B_n n
  | .c, n => .LD_C_n n
  | .d, n => .LD_D_n n
  | .e, n => .LD_E_n n
  | .h, n => .LD_H_n n
  | .l, n => .LD_L_n n
  | .a, n => .LD_A_n n

/-- The rows `LD r,(HL)` (R403). -/
def Instr.ldFromHl : Reg8 → Instr
  | .b => .LD_B_mHL
  | .c => .LD_C_mHL
  | .d => .LD_D_mHL
  | .e => .LD_E_mHL
  | .h => .LD_H_mHL
  | .l => .LD_L_mHL
  | .a => .LD_A_mHL

/-- The rows `LD (HL),r` (R404). -/
def Instr.ldToHl : Reg8 → Instr
  | .b => .LD_mHL_B
  | .c => .LD_mHL_C
  | .d => .LD_mHL_D
  | .e => .LD_mHL_E
  | .h => .LD_mHL_H
  | .l => .LD_mHL_L
  | .a => .LD_mHL_A

/-- The rows `OP A,r` (R459 to R466). -/
def Instr.aluReg : AluOp → Reg8 → Instr
  | .add, .b => .ADD_A_B
  | .add, .c => .ADD_A_C
  | .add, .d => .ADD_A_D
  | .add, .e => .ADD_A_E
  | .add, .h => .ADD_A_H
  | .add, .l => .ADD_A_L
  | .add, .a => .ADD_A_A
  | .adc, .b => .ADC_A_B
  | .adc, .c => .ADC_A_C
  | .adc, .d => .ADC_A_D
  | .adc, .e => .ADC_A_E
  | .adc, .h => .ADC_A_H
  | .adc, .l => .ADC_A_L
  | .adc, .a => .ADC_A_A
  | .sub, .b => .SUB_A_B
  | .sub, .c => .SUB_A_C
  | .sub, .d => .SUB_A_D
  | .sub, .e => .SUB_A_E
  | .sub, .h => .SUB_A_H
  | .sub, .l => .SUB_A_L
  | .sub, .a => .SUB_A_A
  | .sbc, .b => .SBC_A_B
  | .sbc, .c => .SBC_A_C
  | .sbc, .d => .SBC_A_D
  | .sbc, .e => .SBC_A_E
  | .sbc, .h => .SBC_A_H
  | .sbc, .l => .SBC_A_L
  | .sbc, .a => .SBC_A_A
  | .and, .b => .AND_A_B
  | .and, .c => .AND_A_C
  | .and, .d => .AND_A_D
  | .and, .e => .AND_A_E
  | .and, .h => .AND_A_H
  | .and, .l => .AND_A_L
  | .and, .a => .AND_A_A
  | .xor, .b => .XOR_A_B
  | .xor, .c => .XOR_A_C
  | .xor, .d => .XOR_A_D
  | .xor, .e => .XOR_A_E
  | .xor, .h => .XOR_A_H
  | .xor, .l => .XOR_A_L
  | .xor, .a => .XOR_A_A
  | .or, .b => .OR_A_B
  | .or, .c => .OR_A_C
  | .or, .d => .OR_A_D
  | .or, .e => .OR_A_E
  | .or, .h => .OR_A_H
  | .or, .l => .OR_A_L
  | .or, .a => .OR_A_A
  | .cp, .b => .CP_A_B
  | .cp, .c => .CP_A_C
  | .cp, .d => .CP_A_D
  | .cp, .e => .CP_A_E
  | .cp, .h => .CP_A_H
  | .cp, .l => .CP_A_L
  | .cp, .a => .CP_A_A

/-- The rows `OP A,(HL)` (R467 to R474). -/
def Instr.aluHl : AluOp → Instr
  | .add => .ADD_A_mHL
  | .adc => .ADC_A_mHL
  | .sub => .SUB_A_mHL
  | .sbc => .SBC_A_mHL
  | .and => .AND_A_mHL
  | .xor => .XOR_A_mHL
  | .or => .OR_A_mHL
  | .cp => .CP_A_mHL

/-- The rows `OP A,n` (R475 to R482). -/
def Instr.aluImm : AluOp → Byte → Instr
  | .add, n => .ADD_A_n n
  | .adc, n => .ADC_A_n n
  | .sub, n => .SUB_A_n n
  | .sbc, n => .SBC_A_n n
  | .and, n => .AND_A_n n
  | .xor, n => .XOR_A_n n
  | .or, n => .OR_A_n n
  | .cp, n => .CP_A_n n

/-- The rows `INC r` (R483). -/
def Instr.incReg : Reg8 → Instr
  | .b => .INC_B
  | .c => .INC_C
  | .d => .INC_D
  | .e => .INC_E
  | .h => .INC_H
  | .l => .INC_L
  | .a => .INC_A

/-- The rows `DEC r` (R484). -/
def Instr.decReg : Reg8 → Instr
  | .b => .DEC_B
  | .c => .DEC_C
  | .d => .DEC_D
  | .e => .DEC_E
  | .h => .DEC_H
  | .l => .DEC_L
  | .a => .DEC_A

/-- The rows `LD dd,nn` (R431). -/
def Instr.ldPair : Pair → Word → Instr
  | .bc, nn => .LD_BC_nn nn
  | .de, nn => .LD_DE_nn nn
  | .hl, nn => .LD_HL_nn nn
  | .sp, nn => .LD_SP_nn nn

/-- The rows `ADD HL,dd` (R501). -/
def Instr.addHl : Pair → Instr
  | .bc => .ADD_HL_BC
  | .de => .ADD_HL_DE
  | .hl => .ADD_HL_HL
  | .sp => .ADD_HL_SP

/-- The rows `INC dd` (R502). -/
def Instr.incPair : Pair → Instr
  | .bc => .INC_BC
  | .de => .INC_DE
  | .hl => .INC_HL
  | .sp => .INC_SP

/-- The rows `DEC dd` (R503). -/
def Instr.decPair : Pair → Instr
  | .bc => .DEC_BC
  | .de => .DEC_DE
  | .hl => .DEC_HL
  | .sp => .DEC_SP

/-- The rows `PUSH qq` (R434). -/
def Instr.push : QPair → Instr
  | .bc => .PUSH_BC
  | .de => .PUSH_DE
  | .hl => .PUSH_HL
  | .af => .PUSH_AF

/-- The rows `POP qq` (R435). -/
def Instr.pop : QPair → Instr
  | .bc => .POP_BC
  | .de => .POP_DE
  | .hl => .POP_HL
  | .af => .POP_AF

/-- The rows `JP cc,nn` (R552). -/
def Instr.jpCond : Cond → Word → Instr
  | .nz, nn => .JP_NZ_nn nn
  | .z, nn => .JP_Z_nn nn
  | .nc, nn => .JP_NC_nn nn
  | .c, nn => .JP_C_nn nn

/-- The rows `JR cc,e` (R555). -/
def Instr.jrCond : Cond → Byte → Instr
  | .nz, e => .JR_NZ_e e
  | .z, e => .JR_Z_e e
  | .nc, e => .JR_NC_e e
  | .c, e => .JR_C_e e

/-- The rows `CALL cc,nn` (R557). -/
def Instr.callCond : Cond → Word → Instr
  | .nz, nn => .CALL_NZ_nn nn
  | .z, nn => .CALL_Z_nn nn
  | .nc, nn => .CALL_NC_nn nn
  | .c, nn => .CALL_C_nn nn

/-- The rows `RET cc` (R559). -/
def Instr.retCond : Cond → Instr
  | .nz => .RET_NZ
  | .z => .RET_Z
  | .nc => .RET_NC
  | .c => .RET_C

/-- The rows `RST t` (R561), by the 3-bit field `t`. -/
def Instr.rst : Fin 8 → Instr
  | 0 => .RST_00H
  | 1 => .RST_08H
  | 2 => .RST_10H
  | 3 => .RST_18H
  | 4 => .RST_20H
  | 5 => .RST_28H
  | 6 => .RST_30H
  | 7 => .RST_38H

/-- The rows `RLC r` to `SRL r` (R523 to R530). -/
def Instr.rotReg : RotOp → Reg8 → Instr
  | .rlc, .b => .RLC_B
  | .rlc, .c => .RLC_C
  | .rlc, .d => .RLC_D
  | .rlc, .e => .RLC_E
  | .rlc, .h => .RLC_H
  | .rlc, .l => .RLC_L
  | .rlc, .a => .RLC_A
  | .rrc, .b => .RRC_B
  | .rrc, .c => .RRC_C
  | .rrc, .d => .RRC_D
  | .rrc, .e => .RRC_E
  | .rrc, .h => .RRC_H
  | .rrc, .l => .RRC_L
  | .rrc, .a => .RRC_A
  | .rl, .b => .RL_B
  | .rl, .c => .RL_C
  | .rl, .d => .RL_D
  | .rl, .e => .RL_E
  | .rl, .h => .RL_H
  | .rl, .l => .RL_L
  | .rl, .a => .RL_A
  | .rr, .b => .RR_B
  | .rr, .c => .RR_C
  | .rr, .d => .RR_D
  | .rr, .e => .RR_E
  | .rr, .h => .RR_H
  | .rr, .l => .RR_L
  | .rr, .a => .RR_A
  | .sla, .b => .SLA_B
  | .sla, .c => .SLA_C
  | .sla, .d => .SLA_D
  | .sla, .e => .SLA_E
  | .sla, .h => .SLA_H
  | .sla, .l => .SLA_L
  | .sla, .a => .SLA_A
  | .sra, .b => .SRA_B
  | .sra, .c => .SRA_C
  | .sra, .d => .SRA_D
  | .sra, .e => .SRA_E
  | .sra, .h => .SRA_H
  | .sra, .l => .SRA_L
  | .sra, .a => .SRA_A
  | .swap, .b => .SWAP_B
  | .swap, .c => .SWAP_C
  | .swap, .d => .SWAP_D
  | .swap, .e => .SWAP_E
  | .swap, .h => .SWAP_H
  | .swap, .l => .SWAP_L
  | .swap, .a => .SWAP_A
  | .srl, .b => .SRL_B
  | .srl, .c => .SRL_C
  | .srl, .d => .SRL_D
  | .srl, .e => .SRL_E
  | .srl, .h => .SRL_H
  | .srl, .l => .SRL_L
  | .srl, .a => .SRL_A

/-- The rows `RLC (HL)` to `SRL (HL)` (R531 to R538). -/
def Instr.rotHl : RotOp → Instr
  | .rlc => .RLC_mHL
  | .rrc => .RRC_mHL
  | .rl => .RL_mHL
  | .rr => .RR_mHL
  | .sla => .SLA_mHL
  | .sra => .SRA_mHL
  | .swap => .SWAP_mHL
  | .srl => .SRL_mHL

/-- The rows `BIT b,r` (R539), by the bit index `b`. -/
def Instr.bitReg : Fin 8 → Reg8 → Instr
  | 0, .b => .BIT_0_B
  | 0, .c => .BIT_0_C
  | 0, .d => .BIT_0_D
  | 0, .e => .BIT_0_E
  | 0, .h => .BIT_0_H
  | 0, .l => .BIT_0_L
  | 0, .a => .BIT_0_A
  | 1, .b => .BIT_1_B
  | 1, .c => .BIT_1_C
  | 1, .d => .BIT_1_D
  | 1, .e => .BIT_1_E
  | 1, .h => .BIT_1_H
  | 1, .l => .BIT_1_L
  | 1, .a => .BIT_1_A
  | 2, .b => .BIT_2_B
  | 2, .c => .BIT_2_C
  | 2, .d => .BIT_2_D
  | 2, .e => .BIT_2_E
  | 2, .h => .BIT_2_H
  | 2, .l => .BIT_2_L
  | 2, .a => .BIT_2_A
  | 3, .b => .BIT_3_B
  | 3, .c => .BIT_3_C
  | 3, .d => .BIT_3_D
  | 3, .e => .BIT_3_E
  | 3, .h => .BIT_3_H
  | 3, .l => .BIT_3_L
  | 3, .a => .BIT_3_A
  | 4, .b => .BIT_4_B
  | 4, .c => .BIT_4_C
  | 4, .d => .BIT_4_D
  | 4, .e => .BIT_4_E
  | 4, .h => .BIT_4_H
  | 4, .l => .BIT_4_L
  | 4, .a => .BIT_4_A
  | 5, .b => .BIT_5_B
  | 5, .c => .BIT_5_C
  | 5, .d => .BIT_5_D
  | 5, .e => .BIT_5_E
  | 5, .h => .BIT_5_H
  | 5, .l => .BIT_5_L
  | 5, .a => .BIT_5_A
  | 6, .b => .BIT_6_B
  | 6, .c => .BIT_6_C
  | 6, .d => .BIT_6_D
  | 6, .e => .BIT_6_E
  | 6, .h => .BIT_6_H
  | 6, .l => .BIT_6_L
  | 6, .a => .BIT_6_A
  | 7, .b => .BIT_7_B
  | 7, .c => .BIT_7_C
  | 7, .d => .BIT_7_D
  | 7, .e => .BIT_7_E
  | 7, .h => .BIT_7_H
  | 7, .l => .BIT_7_L
  | 7, .a => .BIT_7_A

/-- The rows `BIT b,(HL)` (R540), by the bit index `b`. -/
def Instr.bitHl : Fin 8 → Instr
  | 0 => .BIT_0_mHL
  | 1 => .BIT_1_mHL
  | 2 => .BIT_2_mHL
  | 3 => .BIT_3_mHL
  | 4 => .BIT_4_mHL
  | 5 => .BIT_5_mHL
  | 6 => .BIT_6_mHL
  | 7 => .BIT_7_mHL

/-- The rows `RES b,r` (R541), by the bit index `b`. -/
def Instr.resReg : Fin 8 → Reg8 → Instr
  | 0, .b => .RES_0_B
  | 0, .c => .RES_0_C
  | 0, .d => .RES_0_D
  | 0, .e => .RES_0_E
  | 0, .h => .RES_0_H
  | 0, .l => .RES_0_L
  | 0, .a => .RES_0_A
  | 1, .b => .RES_1_B
  | 1, .c => .RES_1_C
  | 1, .d => .RES_1_D
  | 1, .e => .RES_1_E
  | 1, .h => .RES_1_H
  | 1, .l => .RES_1_L
  | 1, .a => .RES_1_A
  | 2, .b => .RES_2_B
  | 2, .c => .RES_2_C
  | 2, .d => .RES_2_D
  | 2, .e => .RES_2_E
  | 2, .h => .RES_2_H
  | 2, .l => .RES_2_L
  | 2, .a => .RES_2_A
  | 3, .b => .RES_3_B
  | 3, .c => .RES_3_C
  | 3, .d => .RES_3_D
  | 3, .e => .RES_3_E
  | 3, .h => .RES_3_H
  | 3, .l => .RES_3_L
  | 3, .a => .RES_3_A
  | 4, .b => .RES_4_B
  | 4, .c => .RES_4_C
  | 4, .d => .RES_4_D
  | 4, .e => .RES_4_E
  | 4, .h => .RES_4_H
  | 4, .l => .RES_4_L
  | 4, .a => .RES_4_A
  | 5, .b => .RES_5_B
  | 5, .c => .RES_5_C
  | 5, .d => .RES_5_D
  | 5, .e => .RES_5_E
  | 5, .h => .RES_5_H
  | 5, .l => .RES_5_L
  | 5, .a => .RES_5_A
  | 6, .b => .RES_6_B
  | 6, .c => .RES_6_C
  | 6, .d => .RES_6_D
  | 6, .e => .RES_6_E
  | 6, .h => .RES_6_H
  | 6, .l => .RES_6_L
  | 6, .a => .RES_6_A
  | 7, .b => .RES_7_B
  | 7, .c => .RES_7_C
  | 7, .d => .RES_7_D
  | 7, .e => .RES_7_E
  | 7, .h => .RES_7_H
  | 7, .l => .RES_7_L
  | 7, .a => .RES_7_A

/-- The rows `RES b,(HL)` (R542), by the bit index `b`. -/
def Instr.resHl : Fin 8 → Instr
  | 0 => .RES_0_mHL
  | 1 => .RES_1_mHL
  | 2 => .RES_2_mHL
  | 3 => .RES_3_mHL
  | 4 => .RES_4_mHL
  | 5 => .RES_5_mHL
  | 6 => .RES_6_mHL
  | 7 => .RES_7_mHL

/-- The rows `SET b,r` (R543), by the bit index `b`. -/
def Instr.setReg : Fin 8 → Reg8 → Instr
  | 0, .b => .SET_0_B
  | 0, .c => .SET_0_C
  | 0, .d => .SET_0_D
  | 0, .e => .SET_0_E
  | 0, .h => .SET_0_H
  | 0, .l => .SET_0_L
  | 0, .a => .SET_0_A
  | 1, .b => .SET_1_B
  | 1, .c => .SET_1_C
  | 1, .d => .SET_1_D
  | 1, .e => .SET_1_E
  | 1, .h => .SET_1_H
  | 1, .l => .SET_1_L
  | 1, .a => .SET_1_A
  | 2, .b => .SET_2_B
  | 2, .c => .SET_2_C
  | 2, .d => .SET_2_D
  | 2, .e => .SET_2_E
  | 2, .h => .SET_2_H
  | 2, .l => .SET_2_L
  | 2, .a => .SET_2_A
  | 3, .b => .SET_3_B
  | 3, .c => .SET_3_C
  | 3, .d => .SET_3_D
  | 3, .e => .SET_3_E
  | 3, .h => .SET_3_H
  | 3, .l => .SET_3_L
  | 3, .a => .SET_3_A
  | 4, .b => .SET_4_B
  | 4, .c => .SET_4_C
  | 4, .d => .SET_4_D
  | 4, .e => .SET_4_E
  | 4, .h => .SET_4_H
  | 4, .l => .SET_4_L
  | 4, .a => .SET_4_A
  | 5, .b => .SET_5_B
  | 5, .c => .SET_5_C
  | 5, .d => .SET_5_D
  | 5, .e => .SET_5_E
  | 5, .h => .SET_5_H
  | 5, .l => .SET_5_L
  | 5, .a => .SET_5_A
  | 6, .b => .SET_6_B
  | 6, .c => .SET_6_C
  | 6, .d => .SET_6_D
  | 6, .e => .SET_6_E
  | 6, .h => .SET_6_H
  | 6, .l => .SET_6_L
  | 6, .a => .SET_6_A
  | 7, .b => .SET_7_B
  | 7, .c => .SET_7_C
  | 7, .d => .SET_7_D
  | 7, .e => .SET_7_E
  | 7, .h => .SET_7_H
  | 7, .l => .SET_7_L
  | 7, .a => .SET_7_A

/-- The rows `SET b,(HL)` (R544), by the bit index `b`. -/
def Instr.setHl : Fin 8 → Instr
  | 0 => .SET_0_mHL
  | 1 => .SET_1_mHL
  | 2 => .SET_2_mHL
  | 3 => .SET_3_mHL
  | 4 => .SET_4_mHL
  | 5 => .SET_5_mHL
  | 6 => .SET_6_mHL
  | 7 => .SET_7_mHL

end Sys2Proof
end

