-- ==== Sys2Proof/WellFormed.lean ====
section
/-! DEFINITION. Which terms of `Instr` are instructions. Every operand field of the table is part of a row and every
immediate byte is legal (R322, R324), so two checks remain: the eleven illegal opcodes "have no instruction" (R328), and the
prefix byte 0xCB alone is only the first half of one (R321, R367). -/

namespace Sys2Proof

/-- The opcode byte of a row that is no instruction (R328): `none` for the other rows. -/
def Instr.illegalOpcode : Instr → Option Byte
  | .illegal_0xD3 => some 0xD3
  | .illegal_0xDB => some 0xDB
  | .illegal_0xDD => some 0xDD
  | .illegal_0xE3 => some 0xE3
  | .illegal_0xE4 => some 0xE4
  | .illegal_0xEB => some 0xEB
  | .illegal_0xEC => some 0xEC
  | .illegal_0xED => some 0xED
  | .illegal_0xF4 => some 0xF4
  | .illegal_0xFC => some 0xFC
  | .illegal_0xFD => some 0xFD
  | _ => none

/-- The row is one of the 501 instructions or the prefix, not an illegal opcode (R328). -/
def Instr.isLegal (i : Instr) : Bool := i.illegalOpcode.isNone

/-- The row is a whole instruction, not the prefix byte without its second byte (R321, R367). -/
def Instr.isWhole : Instr → Bool
  | .PREFIX_CB => false
  | _ => true

/-- A well-formed instruction: legal and whole. -/
def Instr.wellFormed (i : Instr) : Bool := i.isLegal && i.isWhole

end Sys2Proof
end

