-- ==== Sys2Proof/Decode.lean ====
section
/-! DEFINITION. Decoding (R321 to R332): the primary map of R326 and the CB map of R329 as tables, row by row as the
spec prints them, the total decoder on lists of bytes, and after it the encoder. Decoding depends on the bytes alone (R331).

`decodeTableWord` is the decoder on a word numbered as spec/opcode_table.json numbers it. -/

namespace Sys2Proof

/-! ## The maps -/

/-- The 16-bit immediate whose first byte is `lo` and whose second is `hi`: little-endian (R123, R324). -/
def immWord (lo hi : Byte) : Word := hi ++ lo

/-- What a primary opcode byte stands for, by the format of R321: `f1` a one-byte row, `f2` a row with one immediate
byte, `f3` a row with a 16-bit immediate, `fcb` the prefix byte. -/
inductive Entry where
  | f1 (i : Instr)
  | f2 (mk : Byte → Instr)
  | f3 (mk : Word → Instr)
  | fcb

/-- Row 0x of the primary map (R326). -/
def primaryRow0 : List Entry :=
  [.f1 .NOP, .f3 .LD_BC_nn, .f1 .LD_mBC_A, .f1 .INC_BC,
   .f1 .INC_B, .f1 .DEC_B, .f2 .LD_B_n, .f1 .RLCA,
   .f3 .LD_mnn_SP, .f1 .ADD_HL_BC, .f1 .LD_A_mBC, .f1 .DEC_BC,
   .f1 .INC_C, .f1 .DEC_C, .f2 .LD_C_n, .f1 .RRCA]

/-- Row 1x of the primary map (R326). -/
def primaryRow1 : List Entry :=
  [.f1 .STOP, .f3 .LD_DE_nn, .f1 .LD_mDE_A, .f1 .INC_DE,
   .f1 .INC_D, .f1 .DEC_D, .f2 .LD_D_n, .f1 .RLA,
   .f2 .JR_e, .f1 .ADD_HL_DE, .f1 .LD_A_mDE, .f1 .DEC_DE,
   .f1 .INC_E, .f1 .DEC_E, .f2 .LD_E_n, .f1 .RRA]

/-- Row 2x of the primary map (R326). -/
def primaryRow2 : List Entry :=
  [.f2 .JR_NZ_e, .f3 .LD_HL_nn, .f1 .LD_mHLinc_A, .f1 .INC_HL,
   .f1 .INC_H, .f1 .DEC_H, .f2 .LD_H_n, .f1 .DAA,
   .f2 .JR_Z_e, .f1 .ADD_HL_HL, .f1 .LD_A_mHLinc, .f1 .DEC_HL,
   .f1 .INC_L, .f1 .DEC_L, .f2 .LD_L_n, .f1 .CPL]

/-- Row 3x of the primary map (R326). -/
def primaryRow3 : List Entry :=
  [.f2 .JR_NC_e, .f3 .LD_SP_nn, .f1 .LD_mHLdec_A, .f1 .INC_SP,
   .f1 .INC_mHL, .f1 .DEC_mHL, .f2 .LD_mHL_n, .f1 .SCF,
   .f2 .JR_C_e, .f1 .ADD_HL_SP, .f1 .LD_A_mHLdec, .f1 .DEC_SP,
   .f1 .INC_A, .f1 .DEC_A, .f2 .LD_A_n, .f1 .CCF]

/-- Row 4x of the primary map (R326). -/
def primaryRow4 : List Entry :=
  [.f1 .LD_B_B, .f1 .LD_B_C, .f1 .LD_B_D, .f1 .LD_B_E,
   .f1 .LD_B_H, .f1 .LD_B_L, .f1 .LD_B_mHL, .f1 .LD_B_A,
   .f1 .LD_C_B, .f1 .LD_C_C, .f1 .LD_C_D, .f1 .LD_C_E,
   .f1 .LD_C_H, .f1 .LD_C_L, .f1 .LD_C_mHL, .f1 .LD_C_A]

/-- Row 5x of the primary map (R326). -/
def primaryRow5 : List Entry :=
  [.f1 .LD_D_B, .f1 .LD_D_C, .f1 .LD_D_D, .f1 .LD_D_E,
   .f1 .LD_D_H, .f1 .LD_D_L, .f1 .LD_D_mHL, .f1 .LD_D_A,
   .f1 .LD_E_B, .f1 .LD_E_C, .f1 .LD_E_D, .f1 .LD_E_E,
   .f1 .LD_E_H, .f1 .LD_E_L, .f1 .LD_E_mHL, .f1 .LD_E_A]

/-- Row 6x of the primary map (R326). -/
def primaryRow6 : List Entry :=
  [.f1 .LD_H_B, .f1 .LD_H_C, .f1 .LD_H_D, .f1 .LD_H_E,
   .f1 .LD_H_H, .f1 .LD_H_L, .f1 .LD_H_mHL, .f1 .LD_H_A,
   .f1 .LD_L_B, .f1 .LD_L_C, .f1 .LD_L_D, .f1 .LD_L_E,
   .f1 .LD_L_H, .f1 .LD_L_L, .f1 .LD_L_mHL, .f1 .LD_L_A]

/-- Row 7x of the primary map (R326). -/
def primaryRow7 : List Entry :=
  [.f1 .LD_mHL_B, .f1 .LD_mHL_C, .f1 .LD_mHL_D, .f1 .LD_mHL_E,
   .f1 .LD_mHL_H, .f1 .LD_mHL_L, .f1 .HALT, .f1 .LD_mHL_A,
   .f1 .LD_A_B, .f1 .LD_A_C, .f1 .LD_A_D, .f1 .LD_A_E,
   .f1 .LD_A_H, .f1 .LD_A_L, .f1 .LD_A_mHL, .f1 .LD_A_A]

/-- Row 8x of the primary map (R326). -/
def primaryRow8 : List Entry :=
  [.f1 .ADD_A_B, .f1 .ADD_A_C, .f1 .ADD_A_D, .f1 .ADD_A_E,
   .f1 .ADD_A_H, .f1 .ADD_A_L, .f1 .ADD_A_mHL, .f1 .ADD_A_A,
   .f1 .ADC_A_B, .f1 .ADC_A_C, .f1 .ADC_A_D, .f1 .ADC_A_E,
   .f1 .ADC_A_H, .f1 .ADC_A_L, .f1 .ADC_A_mHL, .f1 .ADC_A_A]

/-- Row 9x of the primary map (R326). -/
def primaryRow9 : List Entry :=
  [.f1 .SUB_A_B, .f1 .SUB_A_C, .f1 .SUB_A_D, .f1 .SUB_A_E,
   .f1 .SUB_A_H, .f1 .SUB_A_L, .f1 .SUB_A_mHL, .f1 .SUB_A_A,
   .f1 .SBC_A_B, .f1 .SBC_A_C, .f1 .SBC_A_D, .f1 .SBC_A_E,
   .f1 .SBC_A_H, .f1 .SBC_A_L, .f1 .SBC_A_mHL, .f1 .SBC_A_A]

/-- Row Ax of the primary map (R326). -/
def primaryRowA : List Entry :=
  [.f1 .AND_A_B, .f1 .AND_A_C, .f1 .AND_A_D, .f1 .AND_A_E,
   .f1 .AND_A_H, .f1 .AND_A_L, .f1 .AND_A_mHL, .f1 .AND_A_A,
   .f1 .XOR_A_B, .f1 .XOR_A_C, .f1 .XOR_A_D, .f1 .XOR_A_E,
   .f1 .XOR_A_H, .f1 .XOR_A_L, .f1 .XOR_A_mHL, .f1 .XOR_A_A]

/-- Row Bx of the primary map (R326). -/
def primaryRowB : List Entry :=
  [.f1 .OR_A_B, .f1 .OR_A_C, .f1 .OR_A_D, .f1 .OR_A_E,
   .f1 .OR_A_H, .f1 .OR_A_L, .f1 .OR_A_mHL, .f1 .OR_A_A,
   .f1 .CP_A_B, .f1 .CP_A_C, .f1 .CP_A_D, .f1 .CP_A_E,
   .f1 .CP_A_H, .f1 .CP_A_L, .f1 .CP_A_mHL, .f1 .CP_A_A]

/-- Row Cx of the primary map (R326). -/
def primaryRowC : List Entry :=
  [.f1 .RET_NZ, .f1 .POP_BC, .f3 .JP_NZ_nn, .f3 .JP_nn,
   .f3 .CALL_NZ_nn, .f1 .PUSH_BC, .f2 .ADD_A_n, .f1 .RST_00H,
   .f1 .RET_Z, .f1 .RET, .f3 .JP_Z_nn, .fcb,
   .f3 .CALL_Z_nn, .f3 .CALL_nn, .f2 .ADC_A_n, .f1 .RST_08H]

/-- Row Dx of the primary map (R326). -/
def primaryRowD : List Entry :=
  [.f1 .RET_NC, .f1 .POP_DE, .f3 .JP_NC_nn, .f1 .illegal_0xD3,
   .f3 .CALL_NC_nn, .f1 .PUSH_DE, .f2 .SUB_A_n, .f1 .RST_10H,
   .f1 .RET_C, .f1 .RETI, .f3 .JP_C_nn, .f1 .illegal_0xDB,
   .f3 .CALL_C_nn, .f1 .illegal_0xDD, .f2 .SBC_A_n, .f1 .RST_18H]

/-- Row Ex of the primary map (R326). -/
def primaryRowE : List Entry :=
  [.f2 .LDH_mn_A, .f1 .POP_HL, .f1 .LD_mC_A, .f1 .illegal_0xE3,
   .f1 .illegal_0xE4, .f1 .PUSH_HL, .f2 .AND_A_n, .f1 .RST_20H,
   .f2 .ADD_SP_e, .f1 .JP_HL, .f3 .LD_mnn_A, .f1 .illegal_0xEB,
   .f1 .illegal_0xEC, .f1 .illegal_0xED, .f2 .XOR_A_n, .f1 .RST_28H]

/-- Row Fx of the primary map (R326). -/
def primaryRowF : List Entry :=
  [.f2 .LDH_A_mn, .f1 .POP_AF, .f1 .LD_A_mC, .f1 .DI,
   .f1 .illegal_0xF4, .f1 .PUSH_AF, .f2 .OR_A_n, .f1 .RST_30H,
   .f2 .LD_HL_SP_e, .f1 .LD_SP_HL, .f3 .LD_A_mnn, .f1 .EI,
   .f1 .illegal_0xFC, .f1 .illegal_0xFD, .f2 .CP_A_n, .f1 .RST_38H]

/-- The primary map, by the high digit of the opcode byte (R326). -/
def primaryMap : List (List Entry) :=
  [primaryRow0, primaryRow1, primaryRow2, primaryRow3, primaryRow4, primaryRow5, primaryRow6, primaryRow7,
   primaryRow8, primaryRow9, primaryRowA, primaryRowB, primaryRowC, primaryRowD, primaryRowE, primaryRowF]

/-- The entry of a primary opcode byte: row `op[7:4]`, column `op[3:0]` (R326). The defaults are never used: the map has
sixteen rows of sixteen entries. -/
def primary (op : Byte) : Entry :=
  ((primaryMap.getD (op.toNat / 16) []).getD (op.toNat % 16) .fcb)

/-- Row 0x of the CB map (R329). -/
def cbRow0 : List Instr :=
  [.RLC_B, .RLC_C, .RLC_D, .RLC_E, .RLC_H, .RLC_L, .RLC_mHL, .RLC_A,
   .RRC_B, .RRC_C, .RRC_D, .RRC_E, .RRC_H, .RRC_L, .RRC_mHL, .RRC_A]

/-- Row 1x of the CB map (R329). -/
def cbRow1 : List Instr :=
  [.RL_B, .RL_C, .RL_D, .RL_E, .RL_H, .RL_L, .RL_mHL, .RL_A,
   .RR_B, .RR_C, .RR_D, .RR_E, .RR_H, .RR_L, .RR_mHL, .RR_A]

/-- Row 2x of the CB map (R329). -/
def cbRow2 : List Instr :=
  [.SLA_B, .SLA_C, .SLA_D, .SLA_E, .SLA_H, .SLA_L, .SLA_mHL, .SLA_A,
   .SRA_B, .SRA_C, .SRA_D, .SRA_E, .SRA_H, .SRA_L, .SRA_mHL, .SRA_A]

/-- Row 3x of the CB map (R329). -/
def cbRow3 : List Instr :=
  [.SWAP_B, .SWAP_C, .SWAP_D, .SWAP_E, .SWAP_H, .SWAP_L, .SWAP_mHL, .SWAP_A,
   .SRL_B, .SRL_C, .SRL_D, .SRL_E, .SRL_H, .SRL_L, .SRL_mHL, .SRL_A]

/-- Row 4x of the CB map (R329). -/
def cbRow4 : List Instr :=
  [.BIT_0_B, .BIT_0_C, .BIT_0_D, .BIT_0_E, .BIT_0_H, .BIT_0_L, .BIT_0_mHL, .BIT_0_A,
   .BIT_1_B, .BIT_1_C, .BIT_1_D, .BIT_1_E, .BIT_1_H, .BIT_1_L, .BIT_1_mHL, .BIT_1_A]

/-- Row 5x of the CB map (R329). -/
def cbRow5 : List Instr :=
  [.BIT_2_B, .BIT_2_C, .BIT_2_D, .BIT_2_E, .BIT_2_H, .BIT_2_L, .BIT_2_mHL, .BIT_2_A,
   .BIT_3_B, .BIT_3_C, .BIT_3_D, .BIT_3_E, .BIT_3_H, .BIT_3_L, .BIT_3_mHL, .BIT_3_A]

/-- Row 6x of the CB map (R329). -/
def cbRow6 : List Instr :=
  [.BIT_4_B, .BIT_4_C, .BIT_4_D, .BIT_4_E, .BIT_4_H, .BIT_4_L, .BIT_4_mHL, .BIT_4_A,
   .BIT_5_B, .BIT_5_C, .BIT_5_D, .BIT_5_E, .BIT_5_H, .BIT_5_L, .BIT_5_mHL, .BIT_5_A]

/-- Row 7x of the CB map (R329). -/
def cbRow7 : List Instr :=
  [.BIT_6_B, .BIT_6_C, .BIT_6_D, .BIT_6_E, .BIT_6_H, .BIT_6_L, .BIT_6_mHL, .BIT_6_A,
   .BIT_7_B, .BIT_7_C, .BIT_7_D, .BIT_7_E, .BIT_7_H, .BIT_7_L, .BIT_7_mHL, .BIT_7_A]

/-- Row 8x of the CB map (R329). -/
def cbRow8 : List Instr :=
  [.RES_0_B, .RES_0_C, .RES_0_D, .RES_0_E, .RES_0_H, .RES_0_L, .RES_0_mHL, .RES_0_A,
   .RES_1_B, .RES_1_C, .RES_1_D, .RES_1_E, .RES_1_H, .RES_1_L, .RES_1_mHL, .RES_1_A]

/-- Row 9x of the CB map (R329). -/
def cbRow9 : List Instr :=
  [.RES_2_B, .RES_2_C, .RES_2_D, .RES_2_E, .RES_2_H, .RES_2_L, .RES_2_mHL, .RES_2_A,
   .RES_3_B, .RES_3_C, .RES_3_D, .RES_3_E, .RES_3_H, .RES_3_L, .RES_3_mHL, .RES_3_A]

/-- Row Ax of the CB map (R329). -/
def cbRowA : List Instr :=
  [.RES_4_B, .RES_4_C, .RES_4_D, .RES_4_E, .RES_4_H, .RES_4_L, .RES_4_mHL, .RES_4_A,
   .RES_5_B, .RES_5_C, .RES_5_D, .RES_5_E, .RES_5_H, .RES_5_L, .RES_5_mHL, .RES_5_A]

/-- Row Bx of the CB map (R329). -/
def cbRowB : List Instr :=
  [.RES_6_B, .RES_6_C, .RES_6_D, .RES_6_E, .RES_6_H, .RES_6_L, .RES_6_mHL, .RES_6_A,
   .RES_7_B, .RES_7_C, .RES_7_D, .RES_7_E, .RES_7_H, .RES_7_L, .RES_7_mHL, .RES_7_A]

/-- Row Cx of the CB map (R329). -/
def cbRowC : List Instr :=
  [.SET_0_B, .SET_0_C, .SET_0_D, .SET_0_E, .SET_0_H, .SET_0_L, .SET_0_mHL, .SET_0_A,
   .SET_1_B, .SET_1_C, .SET_1_D, .SET_1_E, .SET_1_H, .SET_1_L, .SET_1_mHL, .SET_1_A]

/-- Row Dx of the CB map (R329). -/
def cbRowD : List Instr :=
  [.SET_2_B, .SET_2_C, .SET_2_D, .SET_2_E, .SET_2_H, .SET_2_L, .SET_2_mHL, .SET_2_A,
   .SET_3_B, .SET_3_C, .SET_3_D, .SET_3_E, .SET_3_H, .SET_3_L, .SET_3_mHL, .SET_3_A]

/-- Row Ex of the CB map (R329). -/
def cbRowE : List Instr :=
  [.SET_4_B, .SET_4_C, .SET_4_D, .SET_4_E, .SET_4_H, .SET_4_L, .SET_4_mHL, .SET_4_A,
   .SET_5_B, .SET_5_C, .SET_5_D, .SET_5_E, .SET_5_H, .SET_5_L, .SET_5_mHL, .SET_5_A]

/-- Row Fx of the CB map (R329). -/
def cbRowF : List Instr :=
  [.SET_6_B, .SET_6_C, .SET_6_D, .SET_6_E, .SET_6_H, .SET_6_L, .SET_6_mHL, .SET_6_A,
   .SET_7_B, .SET_7_C, .SET_7_D, .SET_7_E, .SET_7_H, .SET_7_L, .SET_7_mHL, .SET_7_A]

/-- The CB map, by the high digit of the second byte (R329). -/
def cbMap : List (List Instr) :=
  [cbRow0, cbRow1, cbRow2, cbRow3, cbRow4, cbRow5, cbRow6, cbRow7,
   cbRow8, cbRow9, cbRowA, cbRowB, cbRowC, cbRowD, cbRowE, cbRowF]

/-- The instruction of a CB second byte: row `cb[7:4]`, column `cb[3:0]` (R329). The defaults are never used. -/
def cbInstr (cb : Byte) : Instr :=
  ((cbMap.getD (cb.toNat / 16) []).getD (cb.toNat % 16) .NOP)

/-! ## The decoder -/

/-- Why a list of bytes does not begin with an instruction. An illegal opcode is no such reason: it is a row of the table
and decodes to it, and its meaning is the fault of R370. -/
inductive DecodeError where
  /-- There is no byte at all. -/
  | noByte
  /-- The opcode byte `op` wants immediate bytes (R321) that the list does not have. -/
  | missingImmediate (op : Byte)
deriving DecidableEq, Repr

/-- Decodes the first instruction of a list of bytes and gives the bytes after it (R321, R331). The prefix byte with
nothing after it is the row PREFIX CB (log 15). -/
def decode : List Byte → Except DecodeError (Instr × List Byte)
  | [] => .error .noByte
  | op :: rest =>
    match primary op, rest with
    | .f1 i, rest => .ok (i, rest)
    | .f2 mk, n :: rest => .ok (mk n, rest)
    | .f2 _, [] => .error (.missingImmediate op)
    | .f3 mk, lo :: hi :: rest => .ok (mk (immWord lo hi), rest)
    | .f3 _, _ => .error (.missingImmediate op)
    | .fcb, cb :: rest => .ok (cbInstr cb, rest)
    | .fcb, [] => .ok (.PREFIX_CB, [])

/-- The bytes of a word whose bits spec/opcode_table.json numbers. A 16-bit row is the number `0xCB00 | cb`, so the table
has the prefix, which is fetched first, in the high byte (R332); any other word has its first byte lowest (log 14). Every bit
above `nbits` is zero. -/
def tableBytes (nbits w : Nat) : List Byte :=
  if nbits = 16 ∧ w / 256 % 256 = 0xCB then [0xCB, BitVec.ofNat 8 (w % 256), 0]
  else [BitVec.ofNat 8 w, BitVec.ofNat 8 (w / 256), BitVec.ofNat 8 (w / 65536)]

/-- The instruction the decoder reads from an instruction whose bits are `w`, numbered as spec/opcode_table.json numbers
them. The 8-bit row 0xCB is the prefix alone, whose second byte is decoded by the CB rows (log 15). -/
def decodeTableWord (nbits w : Nat) : Option Instr :=
  match decode (if nbits = 8 ∧ w = 0xCB then [0xCB] else tableBytes nbits w) with
  | .ok (i, _) => some i
  | .error _ => none

/-! ## The encoder -/

/-- The first immediate byte of a 16-bit immediate, its low byte (R324). -/
def immLow (nn : Word) : Byte := nn.setWidth 8

/-- The second immediate byte of a 16-bit immediate, its high byte (R324). -/
def immHigh (nn : Word) : Byte := nn.extractLsb' 8 8

/-- The bytes of an instruction in fetch order (R321): the opcode byte of its row and its immediate bytes, or 0xCB and the
second byte of its row. -/
def encode : Instr → List Byte
  | .NOP => [0x00]
  | .LD_BC_nn nn => [0x01, immLow nn, immHigh nn]
  | .LD_mBC_A => [0x02]
  | .INC_BC => [0x03]
  | .INC_B => [0x04]
  | .DEC_B => [0x05]
  | .LD_B_n n => [0x06, n]
  | .RLCA => [0x07]
  | .LD_mnn_SP nn => [0x08, immLow nn, immHigh nn]
  | .ADD_HL_BC => [0x09]
  | .LD_A_mBC => [0x0A]
  | .DEC_BC => [0x0B]
  | .INC_C => [0x0C]
  | .DEC_C => [0x0D]
  | .LD_C_n n => [0x0E, n]
  | .RRCA => [0x0F]
  | .STOP => [0x10]
  | .LD_DE_nn nn => [0x11, immLow nn, immHigh nn]
  | .LD_mDE_A => [0x12]
  | .INC_DE => [0x13]
  | .INC_D => [0x14]
  | .DEC_D => [0x15]
  | .LD_D_n n => [0x16, n]
  | .RLA => [0x17]
  | .JR_e e => [0x18, e]
  | .ADD_HL_DE => [0x19]
  | .LD_A_mDE => [0x1A]
  | .DEC_DE => [0x1B]
  | .INC_E => [0x1C]
  | .DEC_E => [0x1D]
  | .LD_E_n n => [0x1E, n]
  | .RRA => [0x1F]
  | .JR_NZ_e e => [0x20, e]
  | .LD_HL_nn nn => [0x21, immLow nn, immHigh nn]
  | .LD_mHLinc_A => [0x22]
  | .INC_HL => [0x23]
  | .INC_H => [0x24]
  | .DEC_H => [0x25]
  | .LD_H_n n => [0x26, n]
  | .DAA => [0x27]
  | .JR_Z_e e => [0x28, e]
  | .ADD_HL_HL => [0x29]
  | .LD_A_mHLinc => [0x2A]
  | .DEC_HL => [0x2B]
  | .INC_L => [0x2C]
  | .DEC_L => [0x2D]
  | .LD_L_n n => [0x2E, n]
  | .CPL => [0x2F]
  | .JR_NC_e e => [0x30, e]
  | .LD_SP_nn nn => [0x31, immLow nn, immHigh nn]
  | .LD_mHLdec_A => [0x32]
  | .INC_SP => [0x33]
  | .INC_mHL => [0x34]
  | .DEC_mHL => [0x35]
  | .LD_mHL_n n => [0x36, n]
  | .SCF => [0x37]
  | .JR_C_e e => [0x38, e]
  | .ADD_HL_SP => [0x39]
  | .LD_A_mHLdec => [0x3A]
  | .DEC_SP => [0x3B]
  | .INC_A => [0x3C]
  | .DEC_A => [0x3D]
  | .LD_A_n n => [0x3E, n]
  | .CCF => [0x3F]
  | .LD_B_B => [0x40]
  | .LD_B_C => [0x41]
  | .LD_B_D => [0x42]
  | .LD_B_E => [0x43]
  | .LD_B_H => [0x44]
  | .LD_B_L => [0x45]
  | .LD_B_mHL => [0x46]
  | .LD_B_A => [0x47]
  | .LD_C_B => [0x48]
  | .LD_C_C => [0x49]
  | .LD_C_D => [0x4A]
  | .LD_C_E => [0x4B]
  | .LD_C_H => [0x4C]
  | .LD_C_L => [0x4D]
  | .LD_C_mHL => [0x4E]
  | .LD_C_A => [0x4F]
  | .LD_D_B => [0x50]
  | .LD_D_C => [0x51]
  | .LD_D_D => [0x52]
  | .LD_D_E => [0x53]
  | .LD_D_H => [0x54]
  | .LD_D_L => [0x55]
  | .LD_D_mHL => [0x56]
  | .LD_D_A => [0x57]
  | .LD_E_B => [0x58]
  | .LD_E_C => [0x59]
  | .LD_E_D => [0x5A]
  | .LD_E_E => [0x5B]
  | .LD_E_H => [0x5C]
  | .LD_E_L => [0x5D]
  | .LD_E_mHL => [0x5E]
  | .LD_E_A => [0x5F]
  | .LD_H_B => [0x60]
  | .LD_H_C => [0x61]
  | .LD_H_D => [0x62]
  | .LD_H_E => [0x63]
  | .LD_H_H => [0x64]
  | .LD_H_L => [0x65]
  | .LD_H_mHL => [0x66]
  | .LD_H_A => [0x67]
  | .LD_L_B => [0x68]
  | .LD_L_C => [0x69]
  | .LD_L_D => [0x6A]
  | .LD_L_E => [0x6B]
  | .LD_L_H => [0x6C]
  | .LD_L_L => [0x6D]
  | .LD_L_mHL => [0x6E]
  | .LD_L_A => [0x6F]
  | .LD_mHL_B => [0x70]
  | .LD_mHL_C => [0x71]
  | .LD_mHL_D => [0x72]
  | .LD_mHL_E => [0x73]
  | .LD_mHL_H => [0x74]
  | .LD_mHL_L => [0x75]
  | .HALT => [0x76]
  | .LD_mHL_A => [0x77]
  | .LD_A_B => [0x78]
  | .LD_A_C => [0x79]
  | .LD_A_D => [0x7A]
  | .LD_A_E => [0x7B]
  | .LD_A_H => [0x7C]
  | .LD_A_L => [0x7D]
  | .LD_A_mHL => [0x7E]
  | .LD_A_A => [0x7F]
  | .ADD_A_B => [0x80]
  | .ADD_A_C => [0x81]
  | .ADD_A_D => [0x82]
  | .ADD_A_E => [0x83]
  | .ADD_A_H => [0x84]
  | .ADD_A_L => [0x85]
  | .ADD_A_mHL => [0x86]
  | .ADD_A_A => [0x87]
  | .ADC_A_B => [0x88]
  | .ADC_A_C => [0x89]
  | .ADC_A_D => [0x8A]
  | .ADC_A_E => [0x8B]
  | .ADC_A_H => [0x8C]
  | .ADC_A_L => [0x8D]
  | .ADC_A_mHL => [0x8E]
  | .ADC_A_A => [0x8F]
  | .SUB_A_B => [0x90]
  | .SUB_A_C => [0x91]
  | .SUB_A_D => [0x92]
  | .SUB_A_E => [0x93]
  | .SUB_A_H => [0x94]
  | .SUB_A_L => [0x95]
  | .SUB_A_mHL => [0x96]
  | .SUB_A_A => [0x97]
  | .SBC_A_B => [0x98]
  | .SBC_A_C => [0x99]
  | .SBC_A_D => [0x9A]
  | .SBC_A_E => [0x9B]
  | .SBC_A_H => [0x9C]
  | .SBC_A_L => [0x9D]
  | .SBC_A_mHL => [0x9E]
  | .SBC_A_A => [0x9F]
  | .AND_A_B => [0xA0]
  | .AND_A_C => [0xA1]
  | .AND_A_D => [0xA2]
  | .AND_A_E => [0xA3]
  | .AND_A_H => [0xA4]
  | .AND_A_L => [0xA5]
  | .AND_A_mHL => [0xA6]
  | .AND_A_A => [0xA7]
  | .XOR_A_B => [0xA8]
  | .XOR_A_C => [0xA9]
  | .XOR_A_D => [0xAA]
  | .XOR_A_E => [0xAB]
  | .XOR_A_H => [0xAC]
  | .XOR_A_L => [0xAD]
  | .XOR_A_mHL => [0xAE]
  | .XOR_A_A => [0xAF]
  | .OR_A_B => [0xB0]
  | .OR_A_C => [0xB1]
  | .OR_A_D => [0xB2]
  | .OR_A_E => [0xB3]
  | .OR_A_H => [0xB4]
  | .OR_A_L => [0xB5]
  | .OR_A_mHL => [0xB6]
  | .OR_A_A => [0xB7]
  | .CP_A_B => [0xB8]
  | .CP_A_C => [0xB9]
  | .CP_A_D => [0xBA]
  | .CP_A_E => [0xBB]
  | .CP_A_H => [0xBC]
  | .CP_A_L => [0xBD]
  | .CP_A_mHL => [0xBE]
  | .CP_A_A => [0xBF]
  | .RET_NZ => [0xC0]
  | .POP_BC => [0xC1]
  | .JP_NZ_nn nn => [0xC2, immLow nn, immHigh nn]
  | .JP_nn nn => [0xC3, immLow nn, immHigh nn]
  | .CALL_NZ_nn nn => [0xC4, immLow nn, immHigh nn]
  | .PUSH_BC => [0xC5]
  | .ADD_A_n n => [0xC6, n]
  | .RST_00H => [0xC7]
  | .RET_Z => [0xC8]
  | .RET => [0xC9]
  | .JP_Z_nn nn => [0xCA, immLow nn, immHigh nn]
  | .PREFIX_CB => [0xCB]
  | .CALL_Z_nn nn => [0xCC, immLow nn, immHigh nn]
  | .CALL_nn nn => [0xCD, immLow nn, immHigh nn]
  | .ADC_A_n n => [0xCE, n]
  | .RST_08H => [0xCF]
  | .RET_NC => [0xD0]
  | .POP_DE => [0xD1]
  | .JP_NC_nn nn => [0xD2, immLow nn, immHigh nn]
  | .illegal_0xD3 => [0xD3]
  | .CALL_NC_nn nn => [0xD4, immLow nn, immHigh nn]
  | .PUSH_DE => [0xD5]
  | .SUB_A_n n => [0xD6, n]
  | .RST_10H => [0xD7]
  | .RET_C => [0xD8]
  | .RETI => [0xD9]
  | .JP_C_nn nn => [0xDA, immLow nn, immHigh nn]
  | .illegal_0xDB => [0xDB]
  | .CALL_C_nn nn => [0xDC, immLow nn, immHigh nn]
  | .illegal_0xDD => [0xDD]
  | .SBC_A_n n => [0xDE, n]
  | .RST_18H => [0xDF]
  | .LDH_mn_A n => [0xE0, n]
  | .POP_HL => [0xE1]
  | .LD_mC_A => [0xE2]
  | .illegal_0xE3 => [0xE3]
  | .illegal_0xE4 => [0xE4]
  | .PUSH_HL => [0xE5]
  | .AND_A_n n => [0xE6, n]
  | .RST_20H => [0xE7]
  | .ADD_SP_e e => [0xE8, e]
  | .JP_HL => [0xE9]
  | .LD_mnn_A nn => [0xEA, immLow nn, immHigh nn]
  | .illegal_0xEB => [0xEB]
  | .illegal_0xEC => [0xEC]
  | .illegal_0xED => [0xED]
  | .XOR_A_n n => [0xEE, n]
  | .RST_28H => [0xEF]
  | .LDH_A_mn n => [0xF0, n]
  | .POP_AF => [0xF1]
  | .LD_A_mC => [0xF2]
  | .DI => [0xF3]
  | .illegal_0xF4 => [0xF4]
  | .PUSH_AF => [0xF5]
  | .OR_A_n n => [0xF6, n]
  | .RST_30H => [0xF7]
  | .LD_HL_SP_e e => [0xF8, e]
  | .LD_SP_HL => [0xF9]
  | .LD_A_mnn nn => [0xFA, immLow nn, immHigh nn]
  | .EI => [0xFB]
  | .illegal_0xFC => [0xFC]
  | .illegal_0xFD => [0xFD]
  | .CP_A_n n => [0xFE, n]
  | .RST_38H => [0xFF]
  | .RLC_B => [0xCB, 0x00]
  | .RLC_C => [0xCB, 0x01]
  | .RLC_D => [0xCB, 0x02]
  | .RLC_E => [0xCB, 0x03]
  | .RLC_H => [0xCB, 0x04]
  | .RLC_L => [0xCB, 0x05]
  | .RLC_mHL => [0xCB, 0x06]
  | .RLC_A => [0xCB, 0x07]
  | .RRC_B => [0xCB, 0x08]
  | .RRC_C => [0xCB, 0x09]
  | .RRC_D => [0xCB, 0x0A]
  | .RRC_E => [0xCB, 0x0B]
  | .RRC_H => [0xCB, 0x0C]
  | .RRC_L => [0xCB, 0x0D]
  | .RRC_mHL => [0xCB, 0x0E]
  | .RRC_A => [0xCB, 0x0F]
  | .RL_B => [0xCB, 0x10]
  | .RL_C => [0xCB, 0x11]
  | .RL_D => [0xCB, 0x12]
  | .RL_E => [0xCB, 0x13]
  | .RL_H => [0xCB, 0x14]
  | .RL_L => [0xCB, 0x15]
  | .RL_mHL => [0xCB, 0x16]
  | .RL_A => [0xCB, 0x17]
  | .RR_B => [0xCB, 0x18]
  | .RR_C => [0xCB, 0x19]
  | .RR_D => [0xCB, 0x1A]
  | .RR_E => [0xCB, 0x1B]
  | .RR_H => [0xCB, 0x1C]
  | .RR_L => [0xCB, 0x1D]
  | .RR_mHL => [0xCB, 0x1E]
  | .RR_A => [0xCB, 0x1F]
  | .SLA_B => [0xCB, 0x20]
  | .SLA_C => [0xCB, 0x21]
  | .SLA_D => [0xCB, 0x22]
  | .SLA_E => [0xCB, 0x23]
  | .SLA_H => [0xCB, 0x24]
  | .SLA_L => [0xCB, 0x25]
  | .SLA_mHL => [0xCB, 0x26]
  | .SLA_A => [0xCB, 0x27]
  | .SRA_B => [0xCB, 0x28]
  | .SRA_C => [0xCB, 0x29]
  | .SRA_D => [0xCB, 0x2A]
  | .SRA_E => [0xCB, 0x2B]
  | .SRA_H => [0xCB, 0x2C]
  | .SRA_L => [0xCB, 0x2D]
  | .SRA_mHL => [0xCB, 0x2E]
  | .SRA_A => [0xCB, 0x2F]
  | .SWAP_B => [0xCB, 0x30]
  | .SWAP_C => [0xCB, 0x31]
  | .SWAP_D => [0xCB, 0x32]
  | .SWAP_E => [0xCB, 0x33]
  | .SWAP_H => [0xCB, 0x34]
  | .SWAP_L => [0xCB, 0x35]
  | .SWAP_mHL => [0xCB, 0x36]
  | .SWAP_A => [0xCB, 0x37]
  | .SRL_B => [0xCB, 0x38]
  | .SRL_C => [0xCB, 0x39]
  | .SRL_D => [0xCB, 0x3A]
  | .SRL_E => [0xCB, 0x3B]
  | .SRL_H => [0xCB, 0x3C]
  | .SRL_L => [0xCB, 0x3D]
  | .SRL_mHL => [0xCB, 0x3E]
  | .SRL_A => [0xCB, 0x3F]
  | .BIT_0_B => [0xCB, 0x40]
  | .BIT_0_C => [0xCB, 0x41]
  | .BIT_0_D => [0xCB, 0x42]
  | .BIT_0_E => [0xCB, 0x43]
  | .BIT_0_H => [0xCB, 0x44]
  | .BIT_0_L => [0xCB, 0x45]
  | .BIT_0_mHL => [0xCB, 0x46]
  | .BIT_0_A => [0xCB, 0x47]
  | .BIT_1_B => [0xCB, 0x48]
  | .BIT_1_C => [0xCB, 0x49]
  | .BIT_1_D => [0xCB, 0x4A]
  | .BIT_1_E => [0xCB, 0x4B]
  | .BIT_1_H => [0xCB, 0x4C]
  | .BIT_1_L => [0xCB, 0x4D]
  | .BIT_1_mHL => [0xCB, 0x4E]
  | .BIT_1_A => [0xCB, 0x4F]
  | .BIT_2_B => [0xCB, 0x50]
  | .BIT_2_C => [0xCB, 0x51]
  | .BIT_2_D => [0xCB, 0x52]
  | .BIT_2_E => [0xCB, 0x53]
  | .BIT_2_H => [0xCB, 0x54]
  | .BIT_2_L => [0xCB, 0x55]
  | .BIT_2_mHL => [0xCB, 0x56]
  | .BIT_2_A => [0xCB, 0x57]
  | .BIT_3_B => [0xCB, 0x58]
  | .BIT_3_C => [0xCB, 0x59]
  | .BIT_3_D => [0xCB, 0x5A]
  | .BIT_3_E => [0xCB, 0x5B]
  | .BIT_3_H => [0xCB, 0x5C]
  | .BIT_3_L => [0xCB, 0x5D]
  | .BIT_3_mHL => [0xCB, 0x5E]
  | .BIT_3_A => [0xCB, 0x5F]
  | .BIT_4_B => [0xCB, 0x60]
  | .BIT_4_C => [0xCB, 0x61]
  | .BIT_4_D => [0xCB, 0x62]
  | .BIT_4_E => [0xCB, 0x63]
  | .BIT_4_H => [0xCB, 0x64]
  | .BIT_4_L => [0xCB, 0x65]
  | .BIT_4_mHL => [0xCB, 0x66]
  | .BIT_4_A => [0xCB, 0x67]
  | .BIT_5_B => [0xCB, 0x68]
  | .BIT_5_C => [0xCB, 0x69]
  | .BIT_5_D => [0xCB, 0x6A]
  | .BIT_5_E => [0xCB, 0x6B]
  | .BIT_5_H => [0xCB, 0x6C]
  | .BIT_5_L => [0xCB, 0x6D]
  | .BIT_5_mHL => [0xCB, 0x6E]
  | .BIT_5_A => [0xCB, 0x6F]
  | .BIT_6_B => [0xCB, 0x70]
  | .BIT_6_C => [0xCB, 0x71]
  | .BIT_6_D => [0xCB, 0x72]
  | .BIT_6_E => [0xCB, 0x73]
  | .BIT_6_H => [0xCB, 0x74]
  | .BIT_6_L => [0xCB, 0x75]
  | .BIT_6_mHL => [0xCB, 0x76]
  | .BIT_6_A => [0xCB, 0x77]
  | .BIT_7_B => [0xCB, 0x78]
  | .BIT_7_C => [0xCB, 0x79]
  | .BIT_7_D => [0xCB, 0x7A]
  | .BIT_7_E => [0xCB, 0x7B]
  | .BIT_7_H => [0xCB, 0x7C]
  | .BIT_7_L => [0xCB, 0x7D]
  | .BIT_7_mHL => [0xCB, 0x7E]
  | .BIT_7_A => [0xCB, 0x7F]
  | .RES_0_B => [0xCB, 0x80]
  | .RES_0_C => [0xCB, 0x81]
  | .RES_0_D => [0xCB, 0x82]
  | .RES_0_E => [0xCB, 0x83]
  | .RES_0_H => [0xCB, 0x84]
  | .RES_0_L => [0xCB, 0x85]
  | .RES_0_mHL => [0xCB, 0x86]
  | .RES_0_A => [0xCB, 0x87]
  | .RES_1_B => [0xCB, 0x88]
  | .RES_1_C => [0xCB, 0x89]
  | .RES_1_D => [0xCB, 0x8A]
  | .RES_1_E => [0xCB, 0x8B]
  | .RES_1_H => [0xCB, 0x8C]
  | .RES_1_L => [0xCB, 0x8D]
  | .RES_1_mHL => [0xCB, 0x8E]
  | .RES_1_A => [0xCB, 0x8F]
  | .RES_2_B => [0xCB, 0x90]
  | .RES_2_C => [0xCB, 0x91]
  | .RES_2_D => [0xCB, 0x92]
  | .RES_2_E => [0xCB, 0x93]
  | .RES_2_H => [0xCB, 0x94]
  | .RES_2_L => [0xCB, 0x95]
  | .RES_2_mHL => [0xCB, 0x96]
  | .RES_2_A => [0xCB, 0x97]
  | .RES_3_B => [0xCB, 0x98]
  | .RES_3_C => [0xCB, 0x99]
  | .RES_3_D => [0xCB, 0x9A]
  | .RES_3_E => [0xCB, 0x9B]
  | .RES_3_H => [0xCB, 0x9C]
  | .RES_3_L => [0xCB, 0x9D]
  | .RES_3_mHL => [0xCB, 0x9E]
  | .RES_3_A => [0xCB, 0x9F]
  | .RES_4_B => [0xCB, 0xA0]
  | .RES_4_C => [0xCB, 0xA1]
  | .RES_4_D => [0xCB, 0xA2]
  | .RES_4_E => [0xCB, 0xA3]
  | .RES_4_H => [0xCB, 0xA4]
  | .RES_4_L => [0xCB, 0xA5]
  | .RES_4_mHL => [0xCB, 0xA6]
  | .RES_4_A => [0xCB, 0xA7]
  | .RES_5_B => [0xCB, 0xA8]
  | .RES_5_C => [0xCB, 0xA9]
  | .RES_5_D => [0xCB, 0xAA]
  | .RES_5_E => [0xCB, 0xAB]
  | .RES_5_H => [0xCB, 0xAC]
  | .RES_5_L => [0xCB, 0xAD]
  | .RES_5_mHL => [0xCB, 0xAE]
  | .RES_5_A => [0xCB, 0xAF]
  | .RES_6_B => [0xCB, 0xB0]
  | .RES_6_C => [0xCB, 0xB1]
  | .RES_6_D => [0xCB, 0xB2]
  | .RES_6_E => [0xCB, 0xB3]
  | .RES_6_H => [0xCB, 0xB4]
  | .RES_6_L => [0xCB, 0xB5]
  | .RES_6_mHL => [0xCB, 0xB6]
  | .RES_6_A => [0xCB, 0xB7]
  | .RES_7_B => [0xCB, 0xB8]
  | .RES_7_C => [0xCB, 0xB9]
  | .RES_7_D => [0xCB, 0xBA]
  | .RES_7_E => [0xCB, 0xBB]
  | .RES_7_H => [0xCB, 0xBC]
  | .RES_7_L => [0xCB, 0xBD]
  | .RES_7_mHL => [0xCB, 0xBE]
  | .RES_7_A => [0xCB, 0xBF]
  | .SET_0_B => [0xCB, 0xC0]
  | .SET_0_C => [0xCB, 0xC1]
  | .SET_0_D => [0xCB, 0xC2]
  | .SET_0_E => [0xCB, 0xC3]
  | .SET_0_H => [0xCB, 0xC4]
  | .SET_0_L => [0xCB, 0xC5]
  | .SET_0_mHL => [0xCB, 0xC6]
  | .SET_0_A => [0xCB, 0xC7]
  | .SET_1_B => [0xCB, 0xC8]
  | .SET_1_C => [0xCB, 0xC9]
  | .SET_1_D => [0xCB, 0xCA]
  | .SET_1_E => [0xCB, 0xCB]
  | .SET_1_H => [0xCB, 0xCC]
  | .SET_1_L => [0xCB, 0xCD]
  | .SET_1_mHL => [0xCB, 0xCE]
  | .SET_1_A => [0xCB, 0xCF]
  | .SET_2_B => [0xCB, 0xD0]
  | .SET_2_C => [0xCB, 0xD1]
  | .SET_2_D => [0xCB, 0xD2]
  | .SET_2_E => [0xCB, 0xD3]
  | .SET_2_H => [0xCB, 0xD4]
  | .SET_2_L => [0xCB, 0xD5]
  | .SET_2_mHL => [0xCB, 0xD6]
  | .SET_2_A => [0xCB, 0xD7]
  | .SET_3_B => [0xCB, 0xD8]
  | .SET_3_C => [0xCB, 0xD9]
  | .SET_3_D => [0xCB, 0xDA]
  | .SET_3_E => [0xCB, 0xDB]
  | .SET_3_H => [0xCB, 0xDC]
  | .SET_3_L => [0xCB, 0xDD]
  | .SET_3_mHL => [0xCB, 0xDE]
  | .SET_3_A => [0xCB, 0xDF]
  | .SET_4_B => [0xCB, 0xE0]
  | .SET_4_C => [0xCB, 0xE1]
  | .SET_4_D => [0xCB, 0xE2]
  | .SET_4_E => [0xCB, 0xE3]
  | .SET_4_H => [0xCB, 0xE4]
  | .SET_4_L => [0xCB, 0xE5]
  | .SET_4_mHL => [0xCB, 0xE6]
  | .SET_4_A => [0xCB, 0xE7]
  | .SET_5_B => [0xCB, 0xE8]
  | .SET_5_C => [0xCB, 0xE9]
  | .SET_5_D => [0xCB, 0xEA]
  | .SET_5_E => [0xCB, 0xEB]
  | .SET_5_H => [0xCB, 0xEC]
  | .SET_5_L => [0xCB, 0xED]
  | .SET_5_mHL => [0xCB, 0xEE]
  | .SET_5_A => [0xCB, 0xEF]
  | .SET_6_B => [0xCB, 0xF0]
  | .SET_6_C => [0xCB, 0xF1]
  | .SET_6_D => [0xCB, 0xF2]
  | .SET_6_E => [0xCB, 0xF3]
  | .SET_6_H => [0xCB, 0xF4]
  | .SET_6_L => [0xCB, 0xF5]
  | .SET_6_mHL => [0xCB, 0xF6]
  | .SET_6_A => [0xCB, 0xF7]
  | .SET_7_B => [0xCB, 0xF8]
  | .SET_7_C => [0xCB, 0xF9]
  | .SET_7_D => [0xCB, 0xFA]
  | .SET_7_E => [0xCB, 0xFB]
  | .SET_7_H => [0xCB, 0xFC]
  | .SET_7_L => [0xCB, 0xFD]
  | .SET_7_mHL => [0xCB, 0xFE]
  | .SET_7_A => [0xCB, 0xFF]

end Sys2Proof
end

