-- ==== Sys2Proof/Config.lean ====
section
/-! DEFINITION. What is fixed for a machine, what the host supplies, and the free values (R9, R68, R690).

`Params` are the two parameters of R9 that are fixed for a run and do not belong to the cartridge. `HostInput` is what the
host supplies for one bus cycle (R361). The two opaque constants are free values: nothing in Lean can evaluate them. -/

namespace Sys2Proof

/-- `STOP_LENGTH` (R9, R573): how many bytes the STOP instruction consumes. The spec leaves it OPEN (D8). -/
inductive StopLength where
  | one | two
deriving DecidableEq, Repr

/-- The parameters of a run (R9, R68): `cgb` is `CGB_MODE`, `stopLength` is `STOP_LENGTH`. -/
structure Params where
  cgb : Bool
  stopLength : StopLength
deriving DecidableEq, Repr

/-- The host inputs of one bus cycle (R361).

* `keys`: the eight booleans of `KEYS`, bit i true when key i is pressed, in the order Right, Left, Up, Down, A, B,
  Select, Start (R630).
* `extIrq`: the set `EXT_IRQ` of interrupt requests raised by collaborators, by IF bit (R635).
* `elapsed`: by how many seconds `CLOCK` is ahead of its value in the bus cycle before. The spec's `CLOCK` is
  non-decreasing (R282), which this form says by construction (log 5). -/
structure HostInput where
  keys : BitVec 8
  extIrq : BitVec 5
  elapsed : Nat
deriving DecidableEq, Repr, Inhabited

/-- An `IoWrite(addr, v)` output event: a write to a collaborator's register (R136). -/
structure IoWrite where
  addr : Word
  value : Byte
deriving DecidableEq, Repr

/-- FREE VALUE (log 3): the host input of bus cycle number n, used once the listed inputs of the state are used up. -/
opaque Config.freeInput : Nat → HostInput

/-- FREE VALUE (log 4): `IO_ORACLE(addr, history)` of R136, the value a collaborator returns for a read of its address.
The history is the list of IoWrite events so far, newest first, and the number of collaborator reads so far, so that two
reads need not agree. -/
opaque Config.ioOracle : Word → List IoWrite → Nat → Byte

end Sys2Proof
end

