-- ==== Sys2Proof/Machine/State.lean ====
section
/-! DEFINITION. The state of the CORE as plain data: every piece of state 10_state.md gives the machine (R41 to R67), what is
fixed at load time (R68), the host inputs and outputs of the bus cycles (R361), and the state right after reset (R661).

An instruction-grained step is cut inside a bus cycle: between the last micro-op of one instruction and the dispatch check
and opcode fetch that R365 runs in the same bus cycle (log 1). Every value here is read at that point. -/

namespace Sys2Proof.Machine

/-- One array of storage (R65): its non-zero bytes by offset, rising, no offset twice; every other byte is 0x00 (log 6). -/
abbrev Memory := List Host.Cell

/-! ## Registers -/

/-- The register file, with PC and SP beside it (R41, R43, R46, R47). `f` holds the flags in bits 7 to 4 (R45). -/
structure Regs where
  a : Byte
  f : Byte
  b : Byte
  c : Byte
  d : Byte
  e : Byte
  h : Byte
  l : Byte
  sp : Word
  pc : Word
deriving DecidableEq, Repr

/-! ## The engine: operand latches, IME, run state, HALT bug, micro-op queue, fault -/

/-- The operand latches of the InstructionContext (R48). `addr` is the address of the opcode byte, the local `addr` of R366
(log 10). -/
structure Ctx where
  opcode : Byte
  addr : Word
  lsb : Byte
  msb : Byte
  e : Byte
  tmp : Byte
  tmp16 : Word
deriving DecidableEq, Repr

/-- The interrupt-master-enable state (R49). -/
inductive Ime where
  | disabled | requested | enabling | enabled
deriving DecidableEq, Repr

/-- The run state (R50). -/
inductive RunState where
  | running | halted | stopped
deriving DecidableEq, Repr

/-- The latch an immediate read fills (R48, R324). -/
inductive Latch where
  | tmp | lsb | msb | e
deriving DecidableEq, Repr

/-- How a micro-op addresses memory: through BC, DE, HL, `ctx.nn`, `0xFF00 + ctx.lsb` or `0xFF00 + C` (R324). -/
inductive AddrMode where
  | bc | de | hl | nn | highLsb | highC
deriving DecidableEq, Repr

/-- What a storing micro-op stores: a register or `ctx.tmp`. -/
inductive Src where
  | reg (r : Reg8) | tmp
deriving DecidableEq, Repr

/-- The work of one micro-op (R364), one constructor for each kind of micro-op in the rules of 41_load8.md to 47_system.md.
What each does is `micro` in MicroOps.lean. -/
inductive MicroOp where
  | pad
  | imm (l : Latch)
  | load (m : AddrMode)
  | loadHlInc
  | loadHlDec
  | store (m : AddrMode) (v : Src)
  | storeHlInc
  | storeHlDec
  | copyReg (d s : Reg8)
  | regFromTmp (r : Reg8)
  | pairFromNn (dd : Pair)
  | storeSpLow
  | storeSpHigh
  | spFromHl
  | hlFromSpE
  | addSpE
  | pushHigh (qq : QPair)
  | pushLow (qq : QPair)
  | pushPcHigh
  | pushPcLow
  | popLsb
  | popMsb
  | qpairFromNn (qq : QPair)
  | aluReg (op : AluOp) (r : Reg8)
  | aluTmp (op : AluOp)
  | incReg (r : Reg8)
  | decReg (r : Reg8)
  | incMem
  | decMem
  | daa
  | cpl
  | scf
  | ccf
  | addHl (dd : Pair)
  | incPair (dd : Pair)
  | decPair (dd : Pair)
  | rlca
  | rrca
  | rla
  | rra
  | rotReg (op : RotOp) (r : Reg8)
  | rotMem (op : RotOp)
  | bitReg (b : Fin 8) (r : Reg8)
  | bitTmp (b : Fin 8)
  | resReg (b : Fin 8) (r : Reg8)
  | resMem (b : Fin 8)
  | setReg (b : Fin 8) (r : Reg8)
  | setMem (b : Fin 8)
  | jumpNn
  | jumpHl
  | jumpRel
  | restart (t : Fin 8)
  | jumpNnEnable
  | halt
  | stop
  | di
  | ei
  | prefixCB
deriving DecidableEq, Repr

/-- One entry of the micro-op queue: the work, and the condition it tests first, if it is a conditional micro-op, which
returns `Stop` where the condition fails (R364). -/
structure Micro where
  guard : Option Cond
  op : MicroOp
deriving DecidableEq, Repr

/-- The engine's state (R48 to R53). `queue` holds the micro-ops of the current instruction, `qi` the index of the next one.
`fault` is `none` or the pair (op, addr) of IllegalOpcode (R53). -/
structure Engine where
  ctx : Ctx
  ime : Ime
  run : RunState
  haltBug : Bool
  queue : List Micro
  qi : Nat
  fault : Option (Byte × Word)
deriving DecidableEq, Repr

/-! ## Interrupt, timer, joypad and DMA registers -/

/-- IF, five stored bits (R54), and IE (R55). -/
structure Intr where
  flags : BitVec 5
  ie : Byte
deriving DecidableEq, Repr

/-- The timer (R56 to R61). DIV has no storage of its own (R57). -/
structure Timer where
  sys : Word
  tima : Byte
  tma : Byte
  tac : BitVec 3
  signal : Bool
  reloadPending : Bool
deriving DecidableEq, Repr

/-- P1sel, stored as `v & 0x30` (R62), and lastLines (R63). -/
structure Joypad where
  sel : Byte
  lastLines : BitVec 4
deriving DecidableEq, Repr

/-- The OAM DMA engine (R64). -/
structure Dma where
  reg : Byte
  active : Bool
  started : Bool
  src : Word
  idx : Nat
deriving DecidableEq, Repr

/-- The storage arrays that are not the cartridge's, and SVBK (R65). -/
structure Storage where
  wram : Memory
  vram : Memory
  oam : Memory
  hram : Memory
  svbk : BitVec 3
deriving DecidableEq, Repr

/-! ## Cartridge -/

/-- The real-time clock (R281). -/
structure Rtc where
  startTimestamp : Int
  timestampOffset : Int
  halted : Bool
  snapS : BitVec 6
  snapM : BitVec 6
  snapH : BitVec 5
  snapD : BitVec 9
  latchTimestamp : Option Int
  overflow : Bool
deriving DecidableEq, Repr

/-- MBC1 registers (R221). `mode` true is RAM-banking. -/
structure Mbc1 where
  ramEnabled : Bool
  romReg : BitVec 5
  ramReg : BitVec 2
  mode : Bool
deriving DecidableEq, Repr

/-- MBC2 registers and its 512 four-bit cells (R230). -/
structure Mbc2 where
  ramEnabled : Bool
  romReg : BitVec 4
  cells : Memory
deriving DecidableEq, Repr

/-- MBC3 registers (R240). `wide` tells MBC30 from MBC3, `rtc` is present on the types that have a clock (R210): those two are
configuration. No rule writes or reads `mode` (log 22). -/
structure Mbc3 where
  wide : Bool
  ramEnabled : Bool
  romReg : Byte
  romBank : Byte
  ramReg : Byte
  mode : Bool
  latchArmed : Bool
  rtc : Option Rtc
deriving DecidableEq, Repr

/-- MBC5 registers (R255). -/
structure Mbc5 where
  ramEnabled : Bool
  romReg : BitVec 9
  ramReg : BitVec 4
deriving DecidableEq, Repr

/-- The bank controller with its state (R66, R210). The None variant has none (R218). -/
inductive Mbc where
  | none
  | mbc1 (m : Mbc1)
  | mbc2 (m : Mbc2)
  | mbc3 (m : Mbc3)
  | mbc5 (m : Mbc5)
deriving DecidableEq, Repr

/-- The cartridge: ROM and external RAM storage (R65), what loading fixed (R68), and the controller. -/
structure Cart where
  rom : Memory
  ram : Memory
  romBankCount : Nat
  ramSize : Nat
  hasBattery : Bool
  mbc : Mbc
deriving DecidableEq, Repr

/-! ## Host inputs and outputs -/

/-- One CPU bus access (R361): the bus cycle it happens in, its direction, address and value. -/
structure BusAccess where
  cycle : Nat
  write : Bool
  addr : Word
  value : Byte
deriving DecidableEq, Repr

/-- What passes between the CORE and the host. `keys`, `extIrq` and `now` are the inputs of the current bus cycle (R361);
`inputs` are those of the next ones, free values after its end (log 3); `cycle` numbers the current bus cycle from 0. `ioReads`
and `ioWrites` are the history the collaborators answer from (R136, log 4); `ioWrites` and `bus`, newest first, are outputs
(R361, log 20). -/
structure Env where
  inputs : List HostInput
  keys : BitVec 8
  extIrq : BitVec 5
  now : Nat
  cycle : Nat
  ioReads : Nat
  ioWrites : List IoWrite
  bus : List BusAccess
deriving DecidableEq, Repr

/-! ## The whole state -/

/-- The state of the CORE. `vbkRefused` is the model's own latch: a write selected VRAM bank 1 in CGB mode, so the run has no
meaning from this step on (R131, log 12). -/
structure State where
  regs : Regs
  eng : Engine
  intr : Intr
  timer : Timer
  joy : Joypad
  dma : Dma
  mem : Storage
  cart : Cart
  env : Env
  params : Params
  vbkRefused : Bool
deriving DecidableEq, Repr

/-- Why the machine stops. -/
inductive Fault where
  /-- Raised by the eleven illegal opcodes (R328, R370) and by every step after one. Safe: the spec defines no further step. It
  carries the state as R370 leaves it (log 13). -/
  | illegalOpcode (op : Byte) (addr : Word) (final : State)
deriving DecidableEq, Repr

/-- Why the model gives no next state. -/
inductive Refusal where
  /-- Raised by an arm of `exec` that has no meaning yet. Safe: nothing is claimed of that instruction. -/
  | notModelled (mnemonic : String)
  /-- Raised where a CPU write selects VRAM bank 1 in CGB mode, which the spec itself refuses (R131). Safe: nothing is claimed of
  the run from that step on. -/
  | vramBank1
deriving DecidableEq, Repr

/-! ## Reset -/

/-- The register file after reset (R661), DMG or CGB column. -/
def Regs.reset (cgb : Bool) : Regs :=
  if cgb then
    { a := 0x11, f := 0x80, b := 0x00, c := 0x00, d := 0xFF, e := 0x56, h := 0x00, l := 0x0D, sp := 0xFFFE, pc := 0x0100 }
  else
    { a := 0x01, f := 0xB0, b := 0x00, c := 0x13, d := 0x00, e := 0xD8, h := 0x01, l := 0x4D, sp := 0xFFFE, pc := 0x0100 }

/-- The latches after reset, unspecified and unobservable (R48): DESIGN CHOICE zero (log 10). -/
def Ctx.reset : Ctx := { opcode := 0, addr := 0, lsb := 0, msb := 0, e := 0, tmp := 0, tmp16 := 0 }

/-- The engine after reset (R661). -/
def Engine.reset : Engine :=
  { ctx := Ctx.reset, ime := .disabled, run := .running, haltBug := false, queue := [], qi := 0, fault := none }

/-- IF and IE after reset (R661). -/
def Intr.reset : Intr := { flags := 0x01, ie := 0x00 }

/-- The timer after reset (R661), for a draw `RESET_SYS` of SYS. -/
def Timer.reset (sys : Word) : Timer :=
  { sys := sys, tima := 0x00, tma := 0x00, tac := 0, signal := false, reloadPending := false }

/-- The joypad after reset (R661). -/
def Joypad.reset : Joypad := { sel := 0x00, lastLines := 0xF }

/-- The DMA engine after reset (R661); `src` has no reset value in the spec: DESIGN CHOICE 0 (log 10). -/
def Dma.reset : Dma := { reg := 0xFF, active := false, started := false, src := 0x0000, idx := 0 }

/-- MBC1 registers at reset (R221). -/
def Mbc1.init : Mbc1 := { ramEnabled := false, romReg := 1, ramReg := 0, mode := false }

/-- MBC2 at reset, with the initial cells (R230). -/
def Mbc2.init (cells : Memory) : Mbc2 := { ramEnabled := false, romReg := 1, cells := cells }

/-- MBC3 at reset (R240). -/
def Mbc3.init (wide : Bool) (romMask : Nat) (rtc : Option Rtc) : Mbc3 :=
  { wide := wide, ramEnabled := false, romReg := 1, romBank := 1 &&& BitVec.ofNat 8 romMask, ramReg := 0, mode := false,
    latchArmed := false, rtc := rtc }

/-- MBC5 registers at reset (R255). -/
def Mbc5.init : Mbc5 := { ramEnabled := false, romReg := 1, ramReg := 0 }

/-- The RTC at reset, for the `CLOCK` value at reset (R281). -/
def Rtc.init (now : Nat) : Rtc :=
  { startTimestamp := now, timestampOffset := 0, halted := false, snapS := 0, snapM := 0, snapH := 0, snapD := 0,
    latchTimestamp := none, overflow := false }

/-- The host input of bus cycle number `n`: the first of the inputs to come, or a free value where none is listed (log 3). -/
def hostInput (inputs : List HostInput) (n : Nat) : HostInput :=
  match inputs with
  | i :: _ => i
  | [] => Config.freeInput n

/-- The host's side in the first bus cycle, for the `CLOCK` value at reset and the host inputs of the bus cycles, the first one's
included: its head has sampled its own (R361, R662, R690, log 11). -/
def Env.reset (now : Nat) (inputs : List HostInput) : Env :=
  { inputs := inputs.tail
    keys := (hostInput inputs 0).keys
    extIrq := (hostInput inputs 0).extIrq
    now := now + (hostInput inputs 0).elapsed
    cycle := 0
    ioReads := 0
    ioWrites := []
    bus := [] }

/-- The state right after reset (R661, R662), for the parameters and draws that log 6 to log 9 choose: DMG, `STOP_LENGTH` 1,
a 32 KiB None cartridge of zero bytes without RAM, `RESET_MEM` all zero, `RESET_SYS` 0. No host input is listed, so those of the
first bus cycle are free values as all others are (log 3, log 11). -/
def State.reset : State :=
  { regs := Regs.reset false
    eng := Engine.reset
    intr := Intr.reset
    timer := Timer.reset 0
    joy := Joypad.reset
    dma := Dma.reset
    mem := { wram := [], vram := [], oam := [], hram := [], svbk := 0 }
    cart := { rom := [], ram := [], romBankCount := 2, ramSize := 0, hasBattery := false, mbc := .none }
    env := Env.reset 0 []
    params := { cgb := false, stopLength := .one }
    vbkRefused := false }

end Sys2Proof.Machine
end

