-- ==== Sys2Proof/Machine/Microcode.lean ====
section
/-! DEFINITION. The micro-op list of every instruction, as the rules of 41_load8.md to 47_system.md give it: entry k is what bus
cycle k + 1 of the instruction does (R364, R369). Decode is pure: a list depends on the opcode only (R375). -/

namespace Sys2Proof.Machine

/-- A micro-op that always runs and returns Continue (R364). -/
abbrev does (op : MicroOp) : Micro := { guard := none, op := op }

/-- A conditional micro-op: it returns Stop and does nothing else where the condition fails (R364). -/
abbrev onlyIf (cc : Cond) (op : MicroOp) : Micro := { guard := some cc, op := op }

namespace Microcode

/-! ## 8-bit loads -/

/-- R401. -/
def ldReg (d s : Reg8) : List Micro := [does (.copyReg d s)]
/-- R402. -/
def ldImm (r : Reg8) : List Micro := [does (.imm .tmp), does (.regFromTmp r)]
/-- R403. -/
def ldFromHl (r : Reg8) : List Micro := [does (.load .hl), does (.regFromTmp r)]
/-- R404. -/
def ldToHl (r : Reg8) : List Micro := [does (.store .hl (.reg r)), does .pad]
/-- R405. -/
def ldHlImm : List Micro := [does (.imm .tmp), does (.store .hl .tmp), does .pad]
/-- R406, R407, R414. -/
def ldAFrom (m : AddrMode) : List Micro := [does (.load m), does (.regFromTmp .a)]
/-- R408, R409, R415. -/
def ldATo (m : AddrMode) : List Micro := [does (.store m (.reg .a)), does .pad]
/-- R410. -/
def ldAFromNn : List Micro := [does (.imm .lsb), does (.imm .msb), does (.load .nn), does (.regFromTmp .a)]
/-- R411. -/
def ldNnFromA : List Micro := [does (.imm .lsb), does (.imm .msb), does (.store .nn (.reg .a)), does .pad]
/-- R412. -/
def ldhAFromN : List Micro := [does (.imm .lsb), does (.load .highLsb), does (.regFromTmp .a)]
/-- R413. -/
def ldhNFromA : List Micro := [does (.imm .lsb), does (.store .highLsb (.reg .a)), does .pad]
/-- R416. -/
def ldAHlInc : List Micro := [does .loadHlInc, does (.regFromTmp .a)]
/-- R417. -/
def ldAHlDec : List Micro := [does .loadHlDec, does (.regFromTmp .a)]
/-- R418. -/
def ldHlIncA : List Micro := [does .storeHlInc, does .pad]
/-- R419. -/
def ldHlDecA : List Micro := [does .storeHlDec, does .pad]

/-! ## 16-bit loads and the stack -/

/-- R431. -/
def ldPair (dd : Pair) : List Micro := [does (.imm .lsb), does (.imm .msb), does (.pairFromNn dd)]
/-- R432. -/
def ldNnSp : List Micro := [does (.imm .lsb), does (.imm .msb), does .storeSpLow, does .storeSpHigh, does .pad]
/-- R433. -/
def ldSpHl : List Micro := [does .pad, does .spFromHl]
/-- R434. -/
def push (qq : QPair) : List Micro := [does .pad, does (.pushHigh qq), does (.pushLow qq), does .pad]
/-- R435. -/
def pop (qq : QPair) : List Micro := [does .popLsb, does .popMsb, does (.qpairFromNn qq)]
/-- R436. -/
def ldHlSpE : List Micro := [does (.imm .e), does .pad, does .hlFromSpE]

/-! ## 8-bit arithmetic and logic -/

/-- R459 to R466. -/
def aluReg (op : AluOp) (r : Reg8) : List Micro := [does (.aluReg op r)]
/-- R467 to R474. -/
def aluHl (op : AluOp) : List Micro := [does (.load .hl), does (.aluTmp op)]
/-- R475 to R482. -/
def aluImm (op : AluOp) : List Micro := [does (.imm .tmp), does (.aluTmp op)]
/-- R483. -/
def incReg (r : Reg8) : List Micro := [does (.incReg r)]
/-- R484. -/
def decReg (r : Reg8) : List Micro := [does (.decReg r)]
/-- R485. -/
def incHl : List Micro := [does (.load .hl), does .incMem, does .pad]
/-- R486. -/
def decHl : List Micro := [does (.load .hl), does .decMem, does .pad]
/-- R487. -/
def daa : List Micro := [does .daa]
/-- R488. -/
def cpl : List Micro := [does .cpl]
/-- R489. -/
def scf : List Micro := [does .scf]
/-- R490. -/
def ccf : List Micro := [does .ccf]

/-! ## 16-bit arithmetic -/

/-- R501. -/
def addHl (dd : Pair) : List Micro := [does .pad, does (.addHl dd)]
/-- R502. -/
def incPair (dd : Pair) : List Micro := [does .pad, does (.incPair dd)]
/-- R503. -/
def decPair (dd : Pair) : List Micro := [does .pad, does (.decPair dd)]
/-- R504. -/
def addSpE : List Micro := [does (.imm .e), does .pad, does .pad, does .addSpE]

/-! ## Rotates, shifts and bits -/

/-- R511. -/
def rlca : List Micro := [does .rlca]
/-- R512. -/
def rrca : List Micro := [does .rrca]
/-- R513. -/
def rla : List Micro := [does .rla]
/-- R514. -/
def rra : List Micro := [does .rra]
/-- R367: the list of the prefix byte before its second byte is read. -/
def prefixCB : List Micro := [does .prefixCB]
/-- R523 to R530. -/
def rotReg (op : RotOp) (r : Reg8) : List Micro := [does .prefixCB, does (.rotReg op r)]
/-- R531 to R538. -/
def rotHl (op : RotOp) : List Micro := [does .prefixCB, does (.load .hl), does (.rotMem op), does .pad]
/-- R539. -/
def bitReg (b : Fin 8) (r : Reg8) : List Micro := [does .prefixCB, does (.bitReg b r)]
/-- R540. -/
def bitHl (b : Fin 8) : List Micro := [does .prefixCB, does (.load .hl), does (.bitTmp b)]
/-- R541. -/
def resReg (b : Fin 8) (r : Reg8) : List Micro := [does .prefixCB, does (.resReg b r)]
/-- R542. -/
def resHl (b : Fin 8) : List Micro := [does .prefixCB, does (.load .hl), does (.resMem b), does .pad]
/-- R543. -/
def setReg (b : Fin 8) (r : Reg8) : List Micro := [does .prefixCB, does (.setReg b r)]
/-- R544. -/
def setHl (b : Fin 8) : List Micro := [does .prefixCB, does (.load .hl), does (.setMem b), does .pad]

/-! ## Control transfer -/

/-- R551. -/
def jp : List Micro := [does (.imm .lsb), does (.imm .msb), does .jumpNn, does .pad]
/-- R552. -/
def jpCond (cc : Cond) : List Micro := [does (.imm .lsb), does (.imm .msb), onlyIf cc .jumpNn, does .pad]
/-- R553. -/
def jpHl : List Micro := [does .jumpHl]
/-- R554. -/
def jr : List Micro := [does (.imm .e), does .jumpRel, does .pad]
/-- R555. -/
def jrCond (cc : Cond) : List Micro := [does (.imm .e), onlyIf cc .jumpRel, does .pad]
/-- R556. -/
def call : List Micro :=
  [does (.imm .lsb), does (.imm .msb), does .pad, does .pushPcHigh, does .pushPcLow, does .jumpNn]
/-- R557. -/
def callCond (cc : Cond) : List Micro :=
  [does (.imm .lsb), does (.imm .msb), onlyIf cc .pad, does .pushPcHigh, does .pushPcLow, does .jumpNn]
/-- R558. -/
def ret : List Micro := [does .popLsb, does .popMsb, does .jumpNn, does .pad]
/-- R559. -/
def retCond (cc : Cond) : List Micro := [does .pad, onlyIf cc .popLsb, does .popMsb, does .jumpNn, does .pad]
/-- R560. -/
def reti : List Micro := [does .popLsb, does .popMsb, does .jumpNnEnable, does .pad]
/-- R561. -/
def rst (t : Fin 8) : List Micro := [does .pad, does .pushPcHigh, does .pushPcLow, does (.restart t)]

/-! ## System -/

/-- R571. -/
def nop : List Micro := [does .pad]
/-- R572. -/
def halt : List Micro := [does .halt]
/-- R573. -/
def stop : List Micro := [does .stop]
/-- R574. -/
def di : List Micro := [does .di]
/-- R575. -/
def ei : List Micro := [does .ei]

end Microcode

end Sys2Proof.Machine
end

