-- ==== Sys2Proof/Machine/MicroTable.lean ====
section
/-! DEFINITION. The decode tables' micro-op lists (R364, R375): of an instruction, of a primary opcode byte, of a CB second byte. -/

namespace Sys2Proof.Machine

/-- The micro-op list of an instruction (R364). A CB instruction's list begins with the prefix micro-op (R367); an illegal opcode
has none (R370). -/
def microops : Instr → List Micro
  | .LD_BC_nn _ => Microcode.ldPair .bc
  | .LD_B_n _ => Microcode.ldImm .b
  | .LD_mnn_SP _ => Microcode.ldNnSp
  | .LD_C_n _ => Microcode.ldImm .c
  | .LD_DE_nn _ => Microcode.ldPair .de
  | .LD_D_n _ => Microcode.ldImm .d
  | .JR_e _ => Microcode.jr
  | .LD_E_n _ => Microcode.ldImm .e
  | .JR_NZ_e _ => Microcode.jrCond .nz
  | .LD_HL_nn _ => Microcode.ldPair .hl
  | .LD_H_n _ => Microcode.ldImm .h
  | .JR_Z_e _ => Microcode.jrCond .z
  | .LD_L_n _ => Microcode.ldImm .l
  | .JR_NC_e _ => Microcode.jrCond .nc
  | .LD_SP_nn _ => Microcode.ldPair .sp
  | .LD_mHL_n _ => Microcode.ldHlImm
  | .JR_C_e _ => Microcode.jrCond .c
  | .LD_A_n _ => Microcode.ldImm .a
  | .JP_NZ_nn _ => Microcode.jpCond .nz
  | .JP_nn _ => Microcode.jp
  | .CALL_NZ_nn _ => Microcode.callCond .nz
  | .ADD_A_n _ => Microcode.aluImm .add
  | .JP_Z_nn _ => Microcode.jpCond .z
  | .CALL_Z_nn _ => Microcode.callCond .z
  | .CALL_nn _ => Microcode.call
  | .ADC_A_n _ => Microcode.aluImm .adc
  | .JP_NC_nn _ => Microcode.jpCond .nc
  | .CALL_NC_nn _ => Microcode.callCond .nc
  | .SUB_A_n _ => Microcode.aluImm .sub
  | .JP_C_nn _ => Microcode.jpCond .c
  | .CALL_C_nn _ => Microcode.callCond .c
  | .SBC_A_n _ => Microcode.aluImm .sbc
  | .LDH_mn_A _ => Microcode.ldhNFromA
  | .AND_A_n _ => Microcode.aluImm .and
  | .ADD_SP_e _ => Microcode.addSpE
  | .LD_mnn_A _ => Microcode.ldNnFromA
  | .XOR_A_n _ => Microcode.aluImm .xor
  | .LDH_A_mn _ => Microcode.ldhAFromN
  | .OR_A_n _ => Microcode.aluImm .or
  | .LD_HL_SP_e _ => Microcode.ldHlSpE
  | .LD_A_mnn _ => Microcode.ldAFromNn
  | .CP_A_n _ => Microcode.aluImm .cp
  | .NOP => Microcode.nop
  | .LD_mBC_A => Microcode.ldATo .bc
  | .INC_BC => Microcode.incPair .bc
  | .INC_B => Microcode.incReg .b
  | .DEC_B => Microcode.decReg .b
  | .RLCA => Microcode.rlca
  | .ADD_HL_BC => Microcode.addHl .bc
  | .LD_A_mBC => Microcode.ldAFrom .bc
  | .DEC_BC => Microcode.decPair .bc
  | .INC_C => Microcode.incReg .c
  | .DEC_C => Microcode.decReg .c
  | .RRCA => Microcode.rrca
  | .STOP => Microcode.stop
  | .LD_mDE_A => Microcode.ldATo .de
  | .INC_DE => Microcode.incPair .de
  | .INC_D => Microcode.incReg .d
  | .DEC_D => Microcode.decReg .d
  | .RLA => Microcode.rla
  | .ADD_HL_DE => Microcode.addHl .de
  | .LD_A_mDE => Microcode.ldAFrom .de
  | .DEC_DE => Microcode.decPair .de
  | .INC_E => Microcode.incReg .e
  | .DEC_E => Microcode.decReg .e
  | .RRA => Microcode.rra
  | .LD_mHLinc_A => Microcode.ldHlIncA
  | .INC_HL => Microcode.incPair .hl
  | .INC_H => Microcode.incReg .h
  | .DEC_H => Microcode.decReg .h
  | .DAA => Microcode.daa
  | .ADD_HL_HL => Microcode.addHl .hl
  | .LD_A_mHLinc => Microcode.ldAHlInc
  | .DEC_HL => Microcode.decPair .hl
  | .INC_L => Microcode.incReg .l
  | .DEC_L => Microcode.decReg .l
  | .CPL => Microcode.cpl
  | .LD_mHLdec_A => Microcode.ldHlDecA
  | .INC_SP => Microcode.incPair .sp
  | .INC_mHL => Microcode.incHl
  | .DEC_mHL => Microcode.decHl
  | .SCF => Microcode.scf
  | .ADD_HL_SP => Microcode.addHl .sp
  | .LD_A_mHLdec => Microcode.ldAHlDec
  | .DEC_SP => Microcode.decPair .sp
  | .INC_A => Microcode.incReg .a
  | .DEC_A => Microcode.decReg .a
  | .CCF => Microcode.ccf
  | .LD_B_B => Microcode.ldReg .b .b
  | .LD_B_C => Microcode.ldReg .b .c
  | .LD_B_D => Microcode.ldReg .b .d
  | .LD_B_E => Microcode.ldReg .b .e
  | .LD_B_H => Microcode.ldReg .b .h
  | .LD_B_L => Microcode.ldReg .b .l
  | .LD_B_mHL => Microcode.ldFromHl .b
  | .LD_B_A => Microcode.ldReg .b .a
  | .LD_C_B => Microcode.ldReg .c .b
  | .LD_C_C => Microcode.ldReg .c .c
  | .LD_C_D => Microcode.ldReg .c .d
  | .LD_C_E => Microcode.ldReg .c .e
  | .LD_C_H => Microcode.ldReg .c .h
  | .LD_C_L => Microcode.ldReg .c .l
  | .LD_C_mHL => Microcode.ldFromHl .c
  | .LD_C_A => Microcode.ldReg .c .a
  | .LD_D_B => Microcode.ldReg .d .b
  | .LD_D_C => Microcode.ldReg .d .c
  | .LD_D_D => Microcode.ldReg .d .d
  | .LD_D_E => Microcode.ldReg .d .e
  | .LD_D_H => Microcode.ldReg .d .h
  | .LD_D_L => Microcode.ldReg .d .l
  | .LD_D_mHL => Microcode.ldFromHl .d
  | .LD_D_A => Microcode.ldReg .d .a
  | .LD_E_B => Microcode.ldReg .e .b
  | .LD_E_C => Microcode.ldReg .e .c
  | .LD_E_D => Microcode.ldReg .e .d
  | .LD_E_E => Microcode.ldReg .e .e
  | .LD_E_H => Microcode.ldReg .e .h
  | .LD_E_L => Microcode.ldReg .e .l
  | .LD_E_mHL => Microcode.ldFromHl .e
  | .LD_E_A => Microcode.ldReg .e .a
  | .LD_H_B => Microcode.ldReg .h .b
  | .LD_H_C => Microcode.ldReg .h .c
  | .LD_H_D => Microcode.ldReg .h .d
  | .LD_H_E => Microcode.ldReg .h .e
  | .LD_H_H => Microcode.ldReg .h .h
  | .LD_H_L => Microcode.ldReg .h .l
  | .LD_H_mHL => Microcode.ldFromHl .h
  | .LD_H_A => Microcode.ldReg .h .a
  | .LD_L_B => Microcode.ldReg .l .b
  | .LD_L_C => Microcode.ldReg .l .c
  | .LD_L_D => Microcode.ldReg .l .d
  | .LD_L_E => Microcode.ldReg .l .e
  | .LD_L_H => Microcode.ldReg .l .h
  | .LD_L_L => Microcode.ldReg .l .l
  | .LD_L_mHL => Microcode.ldFromHl .l
  | .LD_L_A => Microcode.ldReg .l .a
  | .LD_mHL_B => Microcode.ldToHl .b
  | .LD_mHL_C => Microcode.ldToHl .c
  | .LD_mHL_D => Microcode.ldToHl .d
  | .LD_mHL_E => Microcode.ldToHl .e
  | .LD_mHL_H => Microcode.ldToHl .h
  | .LD_mHL_L => Microcode.ldToHl .l
  | .HALT => Microcode.halt
  | .LD_mHL_A => Microcode.ldToHl .a
  | .LD_A_B => Microcode.ldReg .a .b
  | .LD_A_C => Microcode.ldReg .a .c
  | .LD_A_D => Microcode.ldReg .a .d
  | .LD_A_E => Microcode.ldReg .a .e
  | .LD_A_H => Microcode.ldReg .a .h
  | .LD_A_L => Microcode.ldReg .a .l
  | .LD_A_mHL => Microcode.ldFromHl .a
  | .LD_A_A => Microcode.ldReg .a .a
  | .ADD_A_B => Microcode.aluReg .add .b
  | .ADD_A_C => Microcode.aluReg .add .c
  | .ADD_A_D => Microcode.aluReg .add .d
  | .ADD_A_E => Microcode.aluReg .add .e
  | .ADD_A_H => Microcode.aluReg .add .h
  | .ADD_A_L => Microcode.aluReg .add .l
  | .ADD_A_mHL => Microcode.aluHl .add
  | .ADD_A_A => Microcode.aluReg .add .a
  | .ADC_A_B => Microcode.aluReg .adc .b
  | .ADC_A_C => Microcode.aluReg .adc .c
  | .ADC_A_D => Microcode.aluReg .adc .d
  | .ADC_A_E => Microcode.aluReg .adc .e
  | .ADC_A_H => Microcode.aluReg .adc .h
  | .ADC_A_L => Microcode.aluReg .adc .l
  | .ADC_A_mHL => Microcode.aluHl .adc
  | .ADC_A_A => Microcode.aluReg .adc .a
  | .SUB_A_B => Microcode.aluReg .sub .b
  | .SUB_A_C => Microcode.aluReg .sub .c
  | .SUB_A_D => Microcode.aluReg .sub .d
  | .SUB_A_E => Microcode.aluReg .sub .e
  | .SUB_A_H => Microcode.aluReg .sub .h
  | .SUB_A_L => Microcode.aluReg .sub .l
  | .SUB_A_mHL => Microcode.aluHl .sub
  | .SUB_A_A => Microcode.aluReg .sub .a
  | .SBC_A_B => Microcode.aluReg .sbc .b
  | .SBC_A_C => Microcode.aluReg .sbc .c
  | .SBC_A_D => Microcode.aluReg .sbc .d
  | .SBC_A_E => Microcode.aluReg .sbc .e
  | .SBC_A_H => Microcode.aluReg .sbc .h
  | .SBC_A_L => Microcode.aluReg .sbc .l
  | .SBC_A_mHL => Microcode.aluHl .sbc
  | .SBC_A_A => Microcode.aluReg .sbc .a
  | .AND_A_B => Microcode.aluReg .and .b
  | .AND_A_C => Microcode.aluReg .and .c
  | .AND_A_D => Microcode.aluReg .and .d
  | .AND_A_E => Microcode.aluReg .and .e
  | .AND_A_H => Microcode.aluReg .and .h
  | .AND_A_L => Microcode.aluReg .and .l
  | .AND_A_mHL => Microcode.aluHl .and
  | .AND_A_A => Microcode.aluReg .and .a
  | .XOR_A_B => Microcode.aluReg .xor .b
  | .XOR_A_C => Microcode.aluReg .xor .c
  | .XOR_A_D => Microcode.aluReg .xor .d
  | .XOR_A_E => Microcode.aluReg .xor .e
  | .XOR_A_H => Microcode.aluReg .xor .h
  | .XOR_A_L => Microcode.aluReg .xor .l
  | .XOR_A_mHL => Microcode.aluHl .xor
  | .XOR_A_A => Microcode.aluReg .xor .a
  | .OR_A_B => Microcode.aluReg .or .b
  | .OR_A_C => Microcode.aluReg .or .c
  | .OR_A_D => Microcode.aluReg .or .d
  | .OR_A_E => Microcode.aluReg .or .e
  | .OR_A_H => Microcode.aluReg .or .h
  | .OR_A_L => Microcode.aluReg .or .l
  | .OR_A_mHL => Microcode.aluHl .or
  | .OR_A_A => Microcode.aluReg .or .a
  | .CP_A_B => Microcode.aluReg .cp .b
  | .CP_A_C => Microcode.aluReg .cp .c
  | .CP_A_D => Microcode.aluReg .cp .d
  | .CP_A_E => Microcode.aluReg .cp .e
  | .CP_A_H => Microcode.aluReg .cp .h
  | .CP_A_L => Microcode.aluReg .cp .l
  | .CP_A_mHL => Microcode.aluHl .cp
  | .CP_A_A => Microcode.aluReg .cp .a
  | .RET_NZ => Microcode.retCond .nz
  | .POP_BC => Microcode.pop .bc
  | .PUSH_BC => Microcode.push .bc
  | .RST_00H => Microcode.rst 0
  | .RET_Z => Microcode.retCond .z
  | .RET => Microcode.ret
  | .PREFIX_CB => Microcode.prefixCB
  | .RST_08H => Microcode.rst 1
  | .RET_NC => Microcode.retCond .nc
  | .POP_DE => Microcode.pop .de
  | .illegal_0xD3 => []
  | .PUSH_DE => Microcode.push .de
  | .RST_10H => Microcode.rst 2
  | .RET_C => Microcode.retCond .c
  | .RETI => Microcode.reti
  | .illegal_0xDB => []
  | .illegal_0xDD => []
  | .RST_18H => Microcode.rst 3
  | .POP_HL => Microcode.pop .hl
  | .LD_mC_A => Microcode.ldATo .highC
  | .illegal_0xE3 => []
  | .illegal_0xE4 => []
  | .PUSH_HL => Microcode.push .hl
  | .RST_20H => Microcode.rst 4
  | .JP_HL => Microcode.jpHl
  | .illegal_0xEB => []
  | .illegal_0xEC => []
  | .illegal_0xED => []
  | .RST_28H => Microcode.rst 5
  | .POP_AF => Microcode.pop .af
  | .LD_A_mC => Microcode.ldAFrom .highC
  | .DI => Microcode.di
  | .illegal_0xF4 => []
  | .PUSH_AF => Microcode.push .af
  | .RST_30H => Microcode.rst 6
  | .LD_SP_HL => Microcode.ldSpHl
  | .EI => Microcode.ei
  | .illegal_0xFC => []
  | .illegal_0xFD => []
  | .RST_38H => Microcode.rst 7
  | .RLC_B => Microcode.rotReg .rlc .b
  | .RLC_C => Microcode.rotReg .rlc .c
  | .RLC_D => Microcode.rotReg .rlc .d
  | .RLC_E => Microcode.rotReg .rlc .e
  | .RLC_H => Microcode.rotReg .rlc .h
  | .RLC_L => Microcode.rotReg .rlc .l
  | .RLC_mHL => Microcode.rotHl .rlc
  | .RLC_A => Microcode.rotReg .rlc .a
  | .RRC_B => Microcode.rotReg .rrc .b
  | .RRC_C => Microcode.rotReg .rrc .c
  | .RRC_D => Microcode.rotReg .rrc .d
  | .RRC_E => Microcode.rotReg .rrc .e
  | .RRC_H => Microcode.rotReg .rrc .h
  | .RRC_L => Microcode.rotReg .rrc .l
  | .RRC_mHL => Microcode.rotHl .rrc
  | .RRC_A => Microcode.rotReg .rrc .a
  | .RL_B => Microcode.rotReg .rl .b
  | .RL_C => Microcode.rotReg .rl .c
  | .RL_D => Microcode.rotReg .rl .d
  | .RL_E => Microcode.rotReg .rl .e
  | .RL_H => Microcode.rotReg .rl .h
  | .RL_L => Microcode.rotReg .rl .l
  | .RL_mHL => Microcode.rotHl .rl
  | .RL_A => Microcode.rotReg .rl .a
  | .RR_B => Microcode.rotReg .rr .b
  | .RR_C => Microcode.rotReg .rr .c
  | .RR_D => Microcode.rotReg .rr .d
  | .RR_E => Microcode.rotReg .rr .e
  | .RR_H => Microcode.rotReg .rr .h
  | .RR_L => Microcode.rotReg .rr .l
  | .RR_mHL => Microcode.rotHl .rr
  | .RR_A => Microcode.rotReg .rr .a
  | .SLA_B => Microcode.rotReg .sla .b
  | .SLA_C => Microcode.rotReg .sla .c
  | .SLA_D => Microcode.rotReg .sla .d
  | .SLA_E => Microcode.rotReg .sla .e
  | .SLA_H => Microcode.rotReg .sla .h
  | .SLA_L => Microcode.rotReg .sla .l
  | .SLA_mHL => Microcode.rotHl .sla
  | .SLA_A => Microcode.rotReg .sla .a
  | .SRA_B => Microcode.rotReg .sra .b
  | .SRA_C => Microcode.rotReg .sra .c
  | .SRA_D => Microcode.rotReg .sra .d
  | .SRA_E => Microcode.rotReg .sra .e
  | .SRA_H => Microcode.rotReg .sra .h
  | .SRA_L => Microcode.rotReg .sra .l
  | .SRA_mHL => Microcode.rotHl .sra
  | .SRA_A => Microcode.rotReg .sra .a
  | .SWAP_B => Microcode.rotReg .swap .b
  | .SWAP_C => Microcode.rotReg .swap .c
  | .SWAP_D => Microcode.rotReg .swap .d
  | .SWAP_E => Microcode.rotReg .swap .e
  | .SWAP_H => Microcode.rotReg .swap .h
  | .SWAP_L => Microcode.rotReg .swap .l
  | .SWAP_mHL => Microcode.rotHl .swap
  | .SWAP_A => Microcode.rotReg .swap .a
  | .SRL_B => Microcode.rotReg .srl .b
  | .SRL_C => Microcode.rotReg .srl .c
  | .SRL_D => Microcode.rotReg .srl .d
  | .SRL_E => Microcode.rotReg .srl .e
  | .SRL_H => Microcode.rotReg .srl .h
  | .SRL_L => Microcode.rotReg .srl .l
  | .SRL_mHL => Microcode.rotHl .srl
  | .SRL_A => Microcode.rotReg .srl .a
  | .BIT_0_B => Microcode.bitReg 0 .b
  | .BIT_0_C => Microcode.bitReg 0 .c
  | .BIT_0_D => Microcode.bitReg 0 .d
  | .BIT_0_E => Microcode.bitReg 0 .e
  | .BIT_0_H => Microcode.bitReg 0 .h
  | .BIT_0_L => Microcode.bitReg 0 .l
  | .BIT_0_mHL => Microcode.bitHl 0
  | .BIT_0_A => Microcode.bitReg 0 .a
  | .BIT_1_B => Microcode.bitReg 1 .b
  | .BIT_1_C => Microcode.bitReg 1 .c
  | .BIT_1_D => Microcode.bitReg 1 .d
  | .BIT_1_E => Microcode.bitReg 1 .e
  | .BIT_1_H => Microcode.bitReg 1 .h
  | .BIT_1_L => Microcode.bitReg 1 .l
  | .BIT_1_mHL => Microcode.bitHl 1
  | .BIT_1_A => Microcode.bitReg 1 .a
  | .BIT_2_B => Microcode.bitReg 2 .b
  | .BIT_2_C => Microcode.bitReg 2 .c
  | .BIT_2_D => Microcode.bitReg 2 .d
  | .BIT_2_E => Microcode.bitReg 2 .e
  | .BIT_2_H => Microcode.bitReg 2 .h
  | .BIT_2_L => Microcode.bitReg 2 .l
  | .BIT_2_mHL => Microcode.bitHl 2
  | .BIT_2_A => Microcode.bitReg 2 .a
  | .BIT_3_B => Microcode.bitReg 3 .b
  | .BIT_3_C => Microcode.bitReg 3 .c
  | .BIT_3_D => Microcode.bitReg 3 .d
  | .BIT_3_E => Microcode.bitReg 3 .e
  | .BIT_3_H => Microcode.bitReg 3 .h
  | .BIT_3_L => Microcode.bitReg 3 .l
  | .BIT_3_mHL => Microcode.bitHl 3
  | .BIT_3_A => Microcode.bitReg 3 .a
  | .BIT_4_B => Microcode.bitReg 4 .b
  | .BIT_4_C => Microcode.bitReg 4 .c
  | .BIT_4_D => Microcode.bitReg 4 .d
  | .BIT_4_E => Microcode.bitReg 4 .e
  | .BIT_4_H => Microcode.bitReg 4 .h
  | .BIT_4_L => Microcode.bitReg 4 .l
  | .BIT_4_mHL => Microcode.bitHl 4
  | .BIT_4_A => Microcode.bitReg 4 .a
  | .BIT_5_B => Microcode.bitReg 5 .b
  | .BIT_5_C => Microcode.bitReg 5 .c
  | .BIT_5_D => Microcode.bitReg 5 .d
  | .BIT_5_E => Microcode.bitReg 5 .e
  | .BIT_5_H => Microcode.bitReg 5 .h
  | .BIT_5_L => Microcode.bitReg 5 .l
  | .BIT_5_mHL => Microcode.bitHl 5
  | .BIT_5_A => Microcode.bitReg 5 .a
  | .BIT_6_B => Microcode.bitReg 6 .b
  | .BIT_6_C => Microcode.bitReg 6 .c
  | .BIT_6_D => Microcode.bitReg 6 .d
  | .BIT_6_E => Microcode.bitReg 6 .e
  | .BIT_6_H => Microcode.bitReg 6 .h
  | .BIT_6_L => Microcode.bitReg 6 .l
  | .BIT_6_mHL => Microcode.bitHl 6
  | .BIT_6_A => Microcode.bitReg 6 .a
  | .BIT_7_B => Microcode.bitReg 7 .b
  | .BIT_7_C => Microcode.bitReg 7 .c
  | .BIT_7_D => Microcode.bitReg 7 .d
  | .BIT_7_E => Microcode.bitReg 7 .e
  | .BIT_7_H => Microcode.bitReg 7 .h
  | .BIT_7_L => Microcode.bitReg 7 .l
  | .BIT_7_mHL => Microcode.bitHl 7
  | .BIT_7_A => Microcode.bitReg 7 .a
  | .RES_0_B => Microcode.resReg 0 .b
  | .RES_0_C => Microcode.resReg 0 .c
  | .RES_0_D => Microcode.resReg 0 .d
  | .RES_0_E => Microcode.resReg 0 .e
  | .RES_0_H => Microcode.resReg 0 .h
  | .RES_0_L => Microcode.resReg 0 .l
  | .RES_0_mHL => Microcode.resHl 0
  | .RES_0_A => Microcode.resReg 0 .a
  | .RES_1_B => Microcode.resReg 1 .b
  | .RES_1_C => Microcode.resReg 1 .c
  | .RES_1_D => Microcode.resReg 1 .d
  | .RES_1_E => Microcode.resReg 1 .e
  | .RES_1_H => Microcode.resReg 1 .h
  | .RES_1_L => Microcode.resReg 1 .l
  | .RES_1_mHL => Microcode.resHl 1
  | .RES_1_A => Microcode.resReg 1 .a
  | .RES_2_B => Microcode.resReg 2 .b
  | .RES_2_C => Microcode.resReg 2 .c
  | .RES_2_D => Microcode.resReg 2 .d
  | .RES_2_E => Microcode.resReg 2 .e
  | .RES_2_H => Microcode.resReg 2 .h
  | .RES_2_L => Microcode.resReg 2 .l
  | .RES_2_mHL => Microcode.resHl 2
  | .RES_2_A => Microcode.resReg 2 .a
  | .RES_3_B => Microcode.resReg 3 .b
  | .RES_3_C => Microcode.resReg 3 .c
  | .RES_3_D => Microcode.resReg 3 .d
  | .RES_3_E => Microcode.resReg 3 .e
  | .RES_3_H => Microcode.resReg 3 .h
  | .RES_3_L => Microcode.resReg 3 .l
  | .RES_3_mHL => Microcode.resHl 3
  | .RES_3_A => Microcode.resReg 3 .a
  | .RES_4_B => Microcode.resReg 4 .b
  | .RES_4_C => Microcode.resReg 4 .c
  | .RES_4_D => Microcode.resReg 4 .d
  | .RES_4_E => Microcode.resReg 4 .e
  | .RES_4_H => Microcode.resReg 4 .h
  | .RES_4_L => Microcode.resReg 4 .l
  | .RES_4_mHL => Microcode.resHl 4
  | .RES_4_A => Microcode.resReg 4 .a
  | .RES_5_B => Microcode.resReg 5 .b
  | .RES_5_C => Microcode.resReg 5 .c
  | .RES_5_D => Microcode.resReg 5 .d
  | .RES_5_E => Microcode.resReg 5 .e
  | .RES_5_H => Microcode.resReg 5 .h
  | .RES_5_L => Microcode.resReg 5 .l
  | .RES_5_mHL => Microcode.resHl 5
  | .RES_5_A => Microcode.resReg 5 .a
  | .RES_6_B => Microcode.resReg 6 .b
  | .RES_6_C => Microcode.resReg 6 .c
  | .RES_6_D => Microcode.resReg 6 .d
  | .RES_6_E => Microcode.resReg 6 .e
  | .RES_6_H => Microcode.resReg 6 .h
  | .RES_6_L => Microcode.resReg 6 .l
  | .RES_6_mHL => Microcode.resHl 6
  | .RES_6_A => Microcode.resReg 6 .a
  | .RES_7_B => Microcode.resReg 7 .b
  | .RES_7_C => Microcode.resReg 7 .c
  | .RES_7_D => Microcode.resReg 7 .d
  | .RES_7_E => Microcode.resReg 7 .e
  | .RES_7_H => Microcode.resReg 7 .h
  | .RES_7_L => Microcode.resReg 7 .l
  | .RES_7_mHL => Microcode.resHl 7
  | .RES_7_A => Microcode.resReg 7 .a
  | .SET_0_B => Microcode.setReg 0 .b
  | .SET_0_C => Microcode.setReg 0 .c
  | .SET_0_D => Microcode.setReg 0 .d
  | .SET_0_E => Microcode.setReg 0 .e
  | .SET_0_H => Microcode.setReg 0 .h
  | .SET_0_L => Microcode.setReg 0 .l
  | .SET_0_mHL => Microcode.setHl 0
  | .SET_0_A => Microcode.setReg 0 .a
  | .SET_1_B => Microcode.setReg 1 .b
  | .SET_1_C => Microcode.setReg 1 .c
  | .SET_1_D => Microcode.setReg 1 .d
  | .SET_1_E => Microcode.setReg 1 .e
  | .SET_1_H => Microcode.setReg 1 .h
  | .SET_1_L => Microcode.setReg 1 .l
  | .SET_1_mHL => Microcode.setHl 1
  | .SET_1_A => Microcode.setReg 1 .a
  | .SET_2_B => Microcode.setReg 2 .b
  | .SET_2_C => Microcode.setReg 2 .c
  | .SET_2_D => Microcode.setReg 2 .d
  | .SET_2_E => Microcode.setReg 2 .e
  | .SET_2_H => Microcode.setReg 2 .h
  | .SET_2_L => Microcode.setReg 2 .l
  | .SET_2_mHL => Microcode.setHl 2
  | .SET_2_A => Microcode.setReg 2 .a
  | .SET_3_B => Microcode.setReg 3 .b
  | .SET_3_C => Microcode.setReg 3 .c
  | .SET_3_D => Microcode.setReg 3 .d
  | .SET_3_E => Microcode.setReg 3 .e
  | .SET_3_H => Microcode.setReg 3 .h
  | .SET_3_L => Microcode.setReg 3 .l
  | .SET_3_mHL => Microcode.setHl 3
  | .SET_3_A => Microcode.setReg 3 .a
  | .SET_4_B => Microcode.setReg 4 .b
  | .SET_4_C => Microcode.setReg 4 .c
  | .SET_4_D => Microcode.setReg 4 .d
  | .SET_4_E => Microcode.setReg 4 .e
  | .SET_4_H => Microcode.setReg 4 .h
  | .SET_4_L => Microcode.setReg 4 .l
  | .SET_4_mHL => Microcode.setHl 4
  | .SET_4_A => Microcode.setReg 4 .a
  | .SET_5_B => Microcode.setReg 5 .b
  | .SET_5_C => Microcode.setReg 5 .c
  | .SET_5_D => Microcode.setReg 5 .d
  | .SET_5_E => Microcode.setReg 5 .e
  | .SET_5_H => Microcode.setReg 5 .h
  | .SET_5_L => Microcode.setReg 5 .l
  | .SET_5_mHL => Microcode.setHl 5
  | .SET_5_A => Microcode.setReg 5 .a
  | .SET_6_B => Microcode.setReg 6 .b
  | .SET_6_C => Microcode.setReg 6 .c
  | .SET_6_D => Microcode.setReg 6 .d
  | .SET_6_E => Microcode.setReg 6 .e
  | .SET_6_H => Microcode.setReg 6 .h
  | .SET_6_L => Microcode.setReg 6 .l
  | .SET_6_mHL => Microcode.setHl 6
  | .SET_6_A => Microcode.setReg 6 .a
  | .SET_7_B => Microcode.setReg 7 .b
  | .SET_7_C => Microcode.setReg 7 .c
  | .SET_7_D => Microcode.setReg 7 .d
  | .SET_7_E => Microcode.setReg 7 .e
  | .SET_7_H => Microcode.setReg 7 .h
  | .SET_7_L => Microcode.setReg 7 .l
  | .SET_7_mHL => Microcode.setHl 7
  | .SET_7_A => Microcode.setReg 7 .a

/-- `microops(op)` of R366: the list of a primary opcode byte, which does not depend on immediates. -/
def opcodeMicroops (op : Byte) : List Micro :=
  match primary op with
  | .f1 i => microops i
  | .f2 mk => microops (mk 0)
  | .f3 mk => microops (mk 0)
  | .fcb => Microcode.prefixCB

/-- `cbMicroops(cb)` of R367: what follows the prefix micro-op. -/
def cbMicroops (cb : Byte) : List Micro := (microops (cbInstr cb)).drop 1

end Sys2Proof.Machine
end

