-- ==== Sys2Proof/Machine/Operands.lean ====
section
/-! DEFINITION. The operand forms: registers, register pairs, conditions and immediates (R41 to R45, R322 to R324). -/

namespace Sys2Proof.Machine

/-- The 16-bit value `hi : lo` (R41, R44, R123). -/
def word (hi lo : Byte) : Word := hi ++ lo

/-- Bits 15 to 8 of a 16-bit value. -/
def highByte (v : Word) : Byte := v.extractLsb' 8 8

/-- Bits 7 to 0 of a 16-bit value. -/
def lowByte (v : Word) : Byte := v.extractLsb' 0 8

/-- `sext_8` as a 16-bit value: the signed offset of JR, ADD SP,e and LD HL,SP+e (R324). -/
def signExtend8 (e : Byte) : Word := e.signExtend 16

/-- The register `x[r]` of a 3-bit register field (R41, R322). -/
def Regs.get (r : Regs) : Reg8 → Byte
  | .b => r.b
  | .c => r.c
  | .d => r.d
  | .e => r.e
  | .h => r.h
  | .l => r.l
  | .a => r.a

/-- `x[r] <- v` (R41, R42). -/
def Regs.set (r : Regs) (x : Reg8) (v : Byte) : Regs :=
  match x with
  | .b => { r with b := v }
  | .c => { r with c := v }
  | .d => { r with d := v }
  | .e => { r with e := v }
  | .h => { r with h := v }
  | .l => { r with l := v }
  | .a => { r with a := v }

/-- Any write to F masks its low nibble off (R43). -/
def maskF (v : Byte) : Byte := v &&& 0xF0

/-- The pair HL. -/
def Regs.hl (r : Regs) : Word := word r.h r.l

/-- `wr16(HL, v)` (R44). -/
def Regs.setHl (r : Regs) (v : Word) : Regs := { r with h := highByte v, l := lowByte v }

/-- `rr16(dd)` of the class BC, DE, HL, SP (R44, R322). -/
def Regs.pair (r : Regs) : Pair → Word
  | .bc => word r.b r.c
  | .de => word r.d r.e
  | .hl => word r.h r.l
  | .sp => r.sp

/-- `wr16(dd, v)` of the class BC, DE, HL, SP (R44, R322). -/
def Regs.setPair (r : Regs) (dd : Pair) (v : Word) : Regs :=
  match dd with
  | .bc => { r with b := highByte v, c := lowByte v }
  | .de => { r with d := highByte v, e := lowByte v }
  | .hl => { r with h := highByte v, l := lowByte v }
  | .sp => { r with sp := v }

/-- `rr16(qq)` of the class BC, DE, HL, AF (R44, R322). -/
def Regs.qpair (r : Regs) : QPair → Word
  | .bc => word r.b r.c
  | .de => word r.d r.e
  | .hl => word r.h r.l
  | .af => word r.a r.f

/-- `wr16(qq, v)` of the class BC, DE, HL, AF; writing AF masks F (R43, R44). -/
def Regs.setQPair (r : Regs) (qq : QPair) (v : Word) : Regs :=
  match qq with
  | .bc => { r with b := highByte v, c := lowByte v }
  | .de => { r with d := highByte v, e := lowByte v }
  | .hl => { r with h := highByte v, l := lowByte v }
  | .af => { r with a := highByte v, f := maskF (lowByte v) }

/-- The Z flag, bit 7 of F (R45). -/
def flagZ (f : Byte) : Bool := f.getLsbD 7

/-- The N flag, bit 6 of F (R45). -/
def flagN (f : Byte) : Bool := f.getLsbD 6

/-- The H flag, bit 5 of F (R45). -/
def flagH (f : Byte) : Bool := f.getLsbD 5

/-- The C flag, bit 4 of F (R45). -/
def flagC (f : Byte) : Bool := f.getLsbD 4

/-- F with these four flags; its low nibble is zero (R43, R45). -/
def packFlags (z n h c : Bool) : Byte :=
  (bif z then 0x80 else 0) ||| (bif n then 0x40 else 0) ||| (bif h then 0x20 else 0) ||| (bif c then 0x10 else 0)

/-- `cond(cc)` on F (R323). -/
def condHolds (cc : Cond) (f : Byte) : Bool :=
  match cc with
  | .nz => !flagZ f
  | .z => flagZ f
  | .nc => !flagC f
  | .c => flagC f

/-- `ctx.nn` (R48). -/
def Ctx.nn (x : Ctx) : Word := word x.msb x.lsb

/-- Fill the latch of an immediate read (R324). -/
def Ctx.latch (x : Ctx) (l : Latch) (v : Byte) : Ctx :=
  match l with
  | .tmp => { x with tmp := v }
  | .lsb => { x with lsb := v }
  | .msb => { x with msb := v }
  | .e => { x with e := v }

/-- `0xFF00 + n`, the high page (R324). -/
def highPage (n : Byte) : Word := word 0xFF n

/-- The address of an addressing mode (R324, R412, R414). -/
def address (m : AddrMode) (r : Regs) (x : Ctx) : Word :=
  match m with
  | .bc => word r.b r.c
  | .de => word r.d r.e
  | .hl => r.hl
  | .nn => x.nn
  | .highLsb => highPage x.lsb
  | .highC => highPage r.c

/-- The byte a storing micro-op stores. -/
def Src.value (v : Src) (r : Regs) (x : Ctx) : Byte :=
  match v with
  | .reg q => r.get q
  | .tmp => x.tmp

end Sys2Proof.Machine
end

