-- ==== Sys2Proof/Machine/Flags.lean ====
section
/-! DEFINITION. Every result and flag computation of the instruction set, as pure functions of the operand values and of F:
the ALU (R451 to R458), INC and DEC (R483, R484), DAA, CPL, SCF and CCF (R487 to R490), the 16-bit additions (R436, R501, R504)
and the rotates, shifts and bit tests (R511 to R522, R539 to R544). Each answers the result and the new F. -/

namespace Sys2Proof.Machine

/-- The low nibble as a number. -/
def nibble (v : Byte) : Nat := v.toNat % 16

/-! ## The 8-bit ALU -/

/-- `alu_ADD` and `alu_ADC`: `a + b + c` with the carries out of bits 3 and 7 (R451, R452). -/
def addWithCarry (a b : Byte) (c : Bool) : Byte × Byte :=
  let r : Byte := a + b + (BitVec.ofBool c).setWidth 8
  (r, packFlags (r == 0) false (decide (nibble a + nibble b + c.toNat > 0xF)) (decide (a.toNat + b.toNat + c.toNat > 0xFF)))

/-- `alu_SUB` and `alu_SBC`: `a - b - c` with the borrows into bits 4 and 8 (R453, R454). -/
def subWithBorrow (a b : Byte) (c : Bool) : Byte × Byte :=
  let r : Byte := a - b - (BitVec.ofBool c).setWidth 8
  (r, packFlags (r == 0) true (decide (nibble a < nibble b + c.toNat)) (decide (a.toNat < b.toNat + c.toNat)))

/-- `alu_OP(a, b, F.C)`: the value A gets and the new F (R451 to R458). CP gives `a` back, so A is not changed. -/
def alu (op : AluOp) (a b f : Byte) : Byte × Byte :=
  match op with
  | .add => addWithCarry a b false
  | .adc => addWithCarry a b (flagC f)
  | .sub => subWithBorrow a b false
  | .sbc => subWithBorrow a b (flagC f)
  | .and => (a &&& b, packFlags (a &&& b == 0) false true false)
  | .xor => (a ^^^ b, packFlags (a ^^^ b == 0) false false false)
  | .or => (a ||| b, packFlags (a ||| b == 0) false false false)
  | .cp => (a, (subWithBorrow a b false).2)

/-- The result and F of INC on a byte (R483); C is unchanged. -/
def inc8 (v f : Byte) : Byte × Byte := (v + 1, packFlags (v + 1 == 0) false (nibble v == 0xF) (flagC f))

/-- The result and F of DEC on a byte (R484); C is unchanged. -/
def dec8 (v f : Byte) : Byte × Byte := (v - 1, packFlags (v - 1 == 0) true (nibble v == 0) (flagC f))

/-- DAA (R487), in the order of the spec's pseudocode, on exact integers with the `mod 256` at the end. -/
def daa8 (a f : Byte) : Byte × Byte :=
  let a0 : Int := a.toNat
  let carry : Bool := flagC f || (!flagN f && decide (a0 > 0x99))
  let a1 : Int :=
    bif flagN f then (bif flagC f then a0 - 0x60 else a0)
    else (bif carry then a0 + 0x60 else a0)
  let a2 : Int :=
    bif flagN f then (bif flagH f then a1 - 0x06 else a1)
    else (bif flagH f || decide (a1 % 16 > 0x09) then a1 + 0x06 else a1)
  let r : Byte := BitVec.ofInt 8 a2
  (r, packFlags (r == 0) (flagN f) false carry)

/-- CPL (R488). -/
def cpl8 (a f : Byte) : Byte × Byte := (~~~a, packFlags (flagZ f) true true (flagC f))

/-- F after SCF (R489). -/
def scfFlags (f : Byte) : Byte := packFlags (flagZ f) false false true

/-- F after CCF (R490). -/
def ccfFlags (f : Byte) : Byte := packFlags (flagZ f) false false (!flagC f)

/-! ## 16-bit arithmetic -/

/-- ADD HL,dd (R501): Z unchanged, H out of bit 11, C out of bit 15. -/
def addHl16 (hl v : Word) (f : Byte) : Word × Byte :=
  (hl + v, packFlags (flagZ f) false (decide (hl.toNat % 0x1000 + v.toNat % 0x1000 > 0xFFF))
    (decide (hl.toNat + v.toNat > 0xFFFF)))

/-- `SP + e` (R436, R504): H and C come from the unsigned addition of the low byte of SP and the raw byte e. -/
def addSpOffset (sp : Word) (e : Byte) : Word × Byte :=
  (sp + signExtend8 e, packFlags false false (decide (sp.toNat % 16 + nibble e > 0xF))
    (decide (sp.toNat % 256 + e.toNat > 0xFF)))

/-! ## Rotates, shifts, bits -/

/-- `sh_OP(v, c)`: the result and C' (R515 to R522). -/
def shift (op : RotOp) (v : Byte) (c : Bool) : Byte × Bool :=
  let cin : Byte := (BitVec.ofBool c).setWidth 8
  match op with
  | .rlc => ((v <<< 1) ||| (v >>> 7), v.getLsbD 7)
  | .rrc => ((v >>> 1) ||| (v <<< 7), v.getLsbD 0)
  | .rl => ((v <<< 1) ||| cin, v.getLsbD 7)
  | .rr => ((v >>> 1) ||| (cin <<< 7), v.getLsbD 0)
  | .sla => (v <<< 1, v.getLsbD 7)
  | .sra => ((v >>> 1) ||| (v &&& 0x80), v.getLsbD 0)
  | .swap => ((v <<< 4) ||| (v >>> 4), false)
  | .srl => (v >>> 1, v.getLsbD 0)

/-- A CB rotate or shift: the result and F (R515 to R522). -/
def rotate (op : RotOp) (v f : Byte) : Byte × Byte :=
  let r := shift op v (flagC f)
  (r.1, packFlags (r.1 == 0) false false r.2)

/-- An accumulator rotate: as the CB form, but Z is always cleared (R511 to R514). -/
def rotateA (op : RotOp) (a f : Byte) : Byte × Byte :=
  let r := shift op a (flagC f)
  (r.1, packFlags false false false r.2)

/-- F after BIT b (R539, R540): Z is the complement of the bit, C is unchanged. -/
def bitFlags (b : Fin 8) (v f : Byte) : Byte := packFlags (!v.getLsbD b.val) false true (flagC f)

/-- The byte `1 << b`. -/
def bitMask (b : Fin 8) : Byte := (1 : Byte) <<< b.val

/-- RES b (R541, R542). -/
def resetBit (b : Fin 8) (v : Byte) : Byte := v &&& ~~~(bitMask b)

/-- SET b (R543, R544). -/
def setBit (b : Fin 8) (v : Byte) : Byte := v ||| bitMask b

end Sys2Proof.Machine
end

