-- ==== Sys2Proof/Machine/Memory.lean ====
section
/-! DEFINITION. The storage arrays (R65): reading and writing one byte of an array, in one canonical form (log 6, log 18). -/

namespace Sys2Proof.Machine

/-- The offset of a CPU address in the array whose window begins at `base`. -/
def offset (a base : Word) : Nat := (a - base).toNat

/-- The index in VRAM of an address in 0x8000-0x9FFF (R126, R128). -/
def vramIndex (a : Word) : Nat := offset a 0x8000

/-- The offset in the cartridge RAM window of an address in 0xA000-0xBFFF (R126, R129). -/
def ramIndex (a : Word) : Nat := offset a 0xA000

/-- The index in OAM of an address in 0xFE00-0xFE9F (R126, R133). -/
def oamIndex (a : Word) : Nat := offset a 0xFE00

/-- The index in high RAM of an address in 0xFF80-0xFFFE (R126, R137). -/
def hramIndex (a : Word) : Nat := offset a 0xFF80

/-- The byte at offset `a`; an offset that is not listed holds 0x00 (log 6). -/
def Memory.read : Memory → Nat → Byte
  | [], _ => 0
  | (k, b) :: rest, a => if k = a then b else Memory.read rest a

/-- Put the byte `v` at offset `a` of an array that lists no byte at `a`, keeping the offsets rising. -/
def Memory.place : Memory → Nat → Byte → Memory
  | [], a, v => [(a, v)]
  | (k, b) :: rest, a, v => if a < k then (a, v) :: (k, b) :: rest else (k, b) :: Memory.place rest a v

/-- The array without its byte at offset `a`. -/
def Memory.erase : Memory → Nat → Memory
  | [], _ => []
  | (k, b) :: rest, a => if k = a then Memory.erase rest a else (k, b) :: Memory.erase rest a

/-- Store the byte `v` at offset `a`. A zero byte is not listed, so equal arrays are equal data. -/
def Memory.write (m : Memory) (a : Nat) (v : Byte) : Memory :=
  if v = 0 then m.erase a else Memory.place (m.erase a) a v

/-- The canonical form from offset `lo` up to `size`: offsets rising and below `size`, no zero byte listed. -/
def Memory.wfFrom (size : Nat) : Nat → Memory → Bool
  | _, [] => true
  | lo, (k, b) :: rest => decide (lo ≤ k) && decide (k < size) && decide (b ≠ 0) && Memory.wfFrom size (k + 1) rest

/-- The canonical form of an array of `size` bytes. -/
def Memory.wf (size : Nat) (m : Memory) : Bool := Memory.wfFrom size 0 m

/-- The canonical array of `size` bytes with the listed bytes, a later entry for an offset over an earlier one. -/
def Memory.ofCells (size : Nat) (cells : List Host.Cell) : Memory :=
  cells.foldl (fun m c => if c.1 < size then m.write c.1 c.2 else m) []

/-- The canonical array that holds the listed bytes from offset `start` on. -/
def Memory.ofBytes : Nat → List Byte → Memory
  | _, [] => []
  | start, b :: rest => if b = 0 then Memory.ofBytes (start + 1) rest else (start, b) :: Memory.ofBytes (start + 1) rest

/-- The bytes of the array from offset `start` on, `n` of them. -/
def Memory.dump (m : Memory) (start : Nat) : Nat → List Byte
  | 0 => []
  | n + 1 => m.read start :: Memory.dump m (start + 1) n

end Sys2Proof.Machine
end

