-- ==== Sys2Proof/Machine/Rtc.lean ====
section
/-! DEFINITION. The real-time clock of MBC3 (R281 to R295). `now` is the `CLOCK` value of the current bus cycle (R282). -/

namespace Sys2Proof.Machine

/-- A day of seconds. -/
def secondsPerDay : Int := 86400

/-- The overflow period: 512 days of seconds (R285). -/
def overflowPeriod : Int := 512 * 86400

/-- `current(ref)` (R283). -/
def Rtc.current (r : Rtc) (ref : Int) : Int := ref - r.startTimestamp + r.timestampOffset

/-- S of `fields(t)` (R283). -/
def timeS (t : Int) : BitVec 6 := BitVec.ofInt 6 (t % 60)

/-- M of `fields(t)` (R283). -/
def timeM (t : Int) : BitVec 6 := BitVec.ofInt 6 (t / 60 % 60)

/-- H of `fields(t)` (R283). -/
def timeH (t : Int) : BitVec 5 := BitVec.ofInt 5 (t / 3600 % 24)

/-- D of `fields(t)` (R283). -/
def timeD (t : Int) : BitVec 9 := BitVec.ofInt 9 (t / secondsPerDay % 512)

/-- `normalise()` (R285), in closed form: its loop subtracts the period as long as the day number is 512 or more, which is
`current(now) / period` times (log 17). -/
def Rtc.normalise (r : Rtc) (now : Nat) : Rtc :=
  let t := r.current now
  if !r.halted && decide (overflowPeriod ≤ t) then
    { r with timestampOffset := r.timestampOffset - t / overflowPeriod * overflowPeriod, overflow := true }
  else r

/-- `ref_read` (R284). -/
def Rtc.readRef (r : Rtc) (now : Nat) : Int := r.latchTimestamp.getD now

/-- The four time fields as a read sees them: the snapshot while halted, else `fields(current(ref_read))` (R289). -/
def Rtc.shownS (r : Rtc) (now : Nat) : BitVec 6 := if r.halted then r.snapS else timeS (r.current (r.readRef now))
/-- Minutes as a read sees them (R289). -/
def Rtc.shownM (r : Rtc) (now : Nat) : BitVec 6 := if r.halted then r.snapM else timeM (r.current (r.readRef now))
/-- Hours as a read sees them (R289). -/
def Rtc.shownH (r : Rtc) (now : Nat) : BitVec 5 := if r.halted then r.snapH else timeH (r.current (r.readRef now))
/-- Days as a read sees them (R289). -/
def Rtc.shownD (r : Rtc) (now : Nat) : BitVec 9 := if r.halted then r.snapD else timeD (r.current (r.readRef now))

/-- The byte `RTC.read(sel)` answers from a normalised clock (R287, R289). Other codes select no RTC register (R243). -/
def Rtc.shown (r : Rtc) (now : Nat) (sel : Byte) : Byte :=
  if sel = 0x08 then (r.shownS now).setWidth 8
  else if sel = 0x09 then (r.shownM now).setWidth 8
  else if sel = 0x0A then (r.shownH now).setWidth 8
  else if sel = 0x0B then (r.shownD now).setWidth 8
  else (bif r.overflow then 0x80 else 0) ||| (bif r.halted then 0x40 else 0) |||
    (BitVec.ofBool ((r.shownD now).getLsbD 8)).setWidth 8

/-- The value of `RTC.read(sel)` (R289). Its effect on the clock is `normalise` alone. -/
def Rtc.read (r : Rtc) (now : Nat) (sel : Byte) : Byte := (r.normalise now).shown now sel

/-- `RTC.latch()` (R288). -/
def Rtc.latch (r : Rtc) (now : Nat) : Rtc := { r.normalise now with latchTimestamp := some (now : Int) }

/-- `daysNow()` (R292). -/
def Rtc.daysNow (r : Rtc) (now : Nat) : BitVec 9 := if r.halted then r.snapD else timeD (r.current now)

/-- `setDays(d)` (R292). -/
def Rtc.setDays (r : Rtc) (now : Nat) (d : BitVec 9) : Rtc :=
  if r.halted then { r with snapD := d }
  else { r with timestampOffset := r.timestampOffset + ((d.toNat : Int) - (timeD (r.current now)).toNat) * secondsPerDay }

/-- Step 1 of the DH write: setting the halt bit while running captures the time (R291). -/
def Rtc.capture (r : Rtc) (now : Nat) (v : Byte) : Rtc :=
  if v.getLsbD 6 && !r.halted then
    { r with snapS := timeS (r.current now), snapM := timeM (r.current now), snapH := timeH (r.current now),
             snapD := timeD (r.current now), halted := true }
  else r

/-- Step 4 of the DH write: clearing the halt bit while halted resumes from the snapshot (R291). -/
def Rtc.resume (r : Rtc) (now : Nat) (v : Byte) : Rtc :=
  if !v.getLsbD 6 && r.halted then
    { r with
      timestampOffset := (r.snapD.toNat : Int) * 86400 + (r.snapH.toNat : Int) * 3600 + (r.snapM.toNat : Int) * 60 +
        (r.snapS.toNat : Int)
      startTimestamp := now
      halted := false }
  else r

/-- `writeDH(v)` (R291), its four sub-steps in order. -/
def Rtc.writeDH (r : Rtc) (now : Nat) (v : Byte) : Rtc :=
  let r1 := r.capture now v
  let r2 := r1.setDays now (BitVec.ofBool (v.getLsbD 0) ++ (r1.daysNow now).setWidth 8)
  let r3 := { r2 with overflow := v.getLsbD 7 }
  r3.resume now v

/-- `RTC.write(sel, v)` (R290). -/
def Rtc.write (r : Rtc) (now : Nat) (sel v : Byte) : Rtc :=
  let n := r.normalise now
  if sel = 0x08 then (if n.halted then { n with snapS := v.setWidth 6 } else n)
  else if sel = 0x09 then (if n.halted then { n with snapM := v.setWidth 6 } else n)
  else if sel = 0x0A then (if n.halted then { n with snapH := v.setWidth 5 } else n)
  else if sel = 0x0B then n.setDays now (BitVec.ofBool ((n.daysNow now).getLsbD 8) ++ v)
  else n.writeDH now v

end Sys2Proof.Machine
end

