-- ==== Sys2Proof/Machine/Mbc.lean ====
section
/-! DEFINITION. The bank controllers: ROM translation, the external RAM window, and the register writes
(21_cartridge_mbc.md, R212 to R258). -/

namespace Sys2Proof.Machine

/-! ## Bank counts -/

/-- The least power of two that is at least `n`, for the counts a 4 MiB ROM allows (R205). -/
def powerOfTwoAtLeast (n : Nat) : Nat :=
  if n ≤ 1 then 1 else if n ≤ 2 then 2 else if n ≤ 4 then 4 else if n ≤ 8 then 8 else if n ≤ 16 then 16
  else if n ≤ 32 then 32 else if n ≤ 64 then 64 else if n ≤ 128 then 128 else 256

/-- `romMask` (R205). -/
def Cart.romMask (c : Cart) : Nat := powerOfTwoAtLeast c.romBankCount - 1

/-- `ramBankCount` (R207, R208). -/
def Cart.ramBankCount (c : Cart) : Nat := (c.ramSize + 0x1FFF) / 0x2000

/-! ## ROM translation -/

/-- The effective bank of 0x0000-0x3FFF (R218, R223, R232, R245, R257). -/
def Cart.lowBank (c : Cart) : Nat :=
  match c.mbc with
  | .mbc1 m => if m.mode then (m.ramReg.toNat <<< 5) &&& c.romMask else 0
  | .none => 0
  | .mbc2 _ => 0
  | .mbc3 _ => 0
  | .mbc5 _ => 0

/-- The effective bank of 0x4000-0x7FFF (R218, R224, R232, R242, R257). MBC3 alone keeps it as state (log 23). -/
def Cart.highBank (c : Cart) : Nat :=
  match c.mbc with
  | .none => 1
  | .mbc1 m =>
    if m.mode then m.romReg.toNat &&& c.romMask else ((m.ramReg.toNat <<< 5) ||| m.romReg.toNat) &&& c.romMask
  | .mbc2 m => m.romReg.toNat &&& c.romMask
  | .mbc3 m => m.romBank.toNat
  | .mbc5 m => m.romReg.toNat &&& c.romMask

/-- The offset in the ROM array of a CPU address below 0x8000 (R213). -/
def Cart.romOffset (c : Cart) (a : Word) : Nat :=
  if a.toNat < 0x4000 then c.lowBank * 0x4000 + a.toNat else c.highBank * 0x4000 + offset a 0x4000

/-- `MBC.readRom(a)` (R213). -/
def Cart.readRom (c : Cart) (a : Word) : Byte := c.rom.read (c.romOffset a)

/-! ## The external RAM window -/

/-- What an access to the RAM window reaches: nothing (the fallback of R215), a byte of the external array, a cell of MBC2RAM,
or an RTC register. -/
inductive RamTarget where
  | closed
  | ext (offset : Nat)
  | cell (index : Nat)
  | clock (sel : Byte)
deriving DecidableEq, Repr

/-- A byte of the external array if the offset lies inside it, else the fallback (R215). -/
def Cart.extTarget (c : Cart) (offset : Nat) : RamTarget := if offset < c.ramSize then .ext offset else .closed

/-- `min(selected, ramBankCount - 1)` (R216). -/
def Cart.clampBank (c : Cart) (selected : Nat) : Nat := min selected (c.ramBankCount - 1)

/-- The RAM-bank value selects one of the five RTC registers (R243). -/
def selectsClock (v : Byte) : Bool := decide (0x08 ≤ v.toNat) && decide (v.toNat ≤ 0x0C)

/-- What window offset `o` (0 to 0x1FFF) reaches (R215, R216, R218, R225, R233, R246, R258). -/
def Cart.ramTarget (c : Cart) (o : Nat) : RamTarget :=
  match c.mbc with
  | .none => c.extTarget o
  | .mbc1 m =>
    if m.ramEnabled then c.extTarget ((if m.mode then c.clampBank m.ramReg.toNat else 0) * 0x2000 + o) else .closed
  | .mbc2 m => if m.ramEnabled then .cell (o % 512) else .closed
  | .mbc3 m =>
    if m.ramEnabled then
      if selectsClock m.ramReg then (if m.rtc.isSome then .clock m.ramReg else .closed)
      else c.extTarget (c.clampBank m.ramReg.toNat * 0x2000 + o)
    else .closed
  | .mbc5 m => if m.ramEnabled then c.extTarget (c.clampBank m.ramReg.toNat * 0x2000 + o) else .closed

/-- MBC2RAM; the other variants have none (R230). -/
def Mbc.cells : Mbc → Memory
  | .mbc2 m => m.cells
  | .none => []
  | .mbc1 _ => []
  | .mbc3 _ => []
  | .mbc5 _ => []

/-- The clock of an MBC3 that has one (R210). -/
def Mbc.clock : Mbc → Option Rtc
  | .mbc3 m => m.rtc
  | .none => .none
  | .mbc1 _ => .none
  | .mbc2 _ => .none
  | .mbc5 _ => .none

/-- The controller with another MBC2RAM. -/
def Mbc.setCells (b : Mbc) (cells : Memory) : Mbc :=
  match b with
  | .mbc2 m => .mbc2 { m with cells := cells }
  | .none => .none
  | .mbc1 m => .mbc1 m
  | .mbc3 m => .mbc3 m
  | .mbc5 m => .mbc5 m

/-- The controller with its clock changed. -/
def Mbc.mapClock (b : Mbc) (f : Rtc → Rtc) : Mbc :=
  match b with
  | .mbc3 m => .mbc3 { m with rtc := m.rtc.map f }
  | .none => .none
  | .mbc1 m => .mbc1 m
  | .mbc2 m => .mbc2 m
  | .mbc5 m => .mbc5 m

/-- `MBC.readRam(o)`, its value (R215, R233, R246). -/
def Cart.readRam (c : Cart) (now o : Nat) : Byte :=
  match c.ramTarget o with
  | .closed => 0xFF
  | .ext offset => c.ram.read offset
  | .cell i => 0xF0 ||| c.mbc.cells.read i
  | .clock sel =>
    match c.mbc.clock with
    | some r => r.read now sel
    | none => 0xFF

/-- `MBC.readRam(o)`, its effect: an RTC access normalises the clock, nothing else changes (R139, R285). -/
def Cart.afterReadRam (c : Cart) (now o : Nat) : Cart :=
  match c.ramTarget o with
  | .closed => c
  | .ext _ => c
  | .cell _ => c
  | .clock _ => { c with mbc := c.mbc.mapClock (·.normalise now) }

/-- `MBC.writeRam(o, v)` (R215, R233, R246). -/
def Cart.writeRam (c : Cart) (now o : Nat) (v : Byte) : Cart :=
  match c.ramTarget o with
  | .closed => c
  | .ext offset => { c with ram := c.ram.write offset v }
  | .cell i => { c with mbc := c.mbc.setCells (c.mbc.cells.write i (v &&& 0x0F)) }
  | .clock sel => { c with mbc := c.mbc.mapClock (·.write now sel v) }

/-- The boolean `MBC.writeRam(o, v)` returns: false if the write was dropped (R212, R215, R218, R233). No program sees it. -/
def Cart.writeRamStores (c : Cart) (o : Nat) : Bool :=
  match c.ramTarget o with
  | .closed => false
  | .ext _ => true
  | .cell _ => true
  | .clock _ => true

/-! ## Register writes -/

/-- The RAMG value (R217). -/
def ramGate (v : Byte) : Bool := v &&& 0x0F == 0x0A

/-- MBC1 `interceptWrite` (R222). -/
def Mbc1.intercept (m : Mbc1) (a : Word) (v : Byte) : Mbc1 :=
  if a.toNat < 0x2000 then { m with ramEnabled := ramGate v }
  else if a.toNat < 0x4000 then { m with romReg := if v.setWidth 5 = 0 then 1 else v.setWidth 5 }
  else if a.toNat < 0x6000 then { m with ramReg := v.setWidth 2 }
  else { m with mode := v.getLsbD 0 }

/-- MBC2 `interceptWrite` (R231): bit 8 of the address tells the two registers apart. -/
def Mbc2.intercept (m : Mbc2) (a : Word) (v : Byte) : Mbc2 :=
  if a.toNat < 0x4000 then
    if a.getLsbD 8 then { m with romReg := if v.setWidth 4 = 0 then 1 else v.setWidth 4 }
    else { m with ramEnabled := ramGate v }
  else m

/-- MBC3 write to the ROM-bank register (R242); `romBank` in the condition is the bank before the write. -/
def Mbc3.writeRomReg (m : Mbc3) (romMask : Nat) (v : Byte) : Mbc3 :=
  let reg : Byte := if v = 0 ∧ m.romBank &&& 0x60 = 0 then 1 else v &&& (if m.wide then 0xFF else 0x7F)
  { m with romReg := reg, romBank := reg &&& BitVec.ofNat 8 romMask }

/-- MBC3 latch sequence (R244); without a clock `RTC.latch()` is a no-op. -/
def Mbc3.writeLatch (m : Mbc3) (now : Nat) (v : Byte) : Mbc3 :=
  if v = 0x00 then { m with latchArmed := true }
  else if v = 0x01 ∧ m.latchArmed = true then { m with latchArmed := false, rtc := m.rtc.map (·.latch now) }
  else { m with latchArmed := false }

/-- MBC3 `interceptWrite` (R241 to R244). -/
def Mbc3.intercept (m : Mbc3) (romMask now : Nat) (a : Word) (v : Byte) : Mbc3 :=
  if a.toNat < 0x2000 then { m with ramEnabled := ramGate v }
  else if a.toNat < 0x4000 then m.writeRomReg romMask v
  else if a.toNat < 0x6000 then { m with ramReg := v }
  else m.writeLatch now v

/-- MBC5 `interceptWrite` (R256). -/
def Mbc5.intercept (m : Mbc5) (a : Word) (v : Byte) : Mbc5 :=
  if a.toNat < 0x2000 then { m with ramEnabled := ramGate v }
  else if a.toNat < 0x3000 then { m with romReg := BitVec.ofBool (m.romReg.getLsbD 8) ++ v }
  else if a.toNat < 0x4000 then { m with romReg := BitVec.ofBool (v.getLsbD 0) ++ m.romReg.setWidth 8 }
  else if a.toNat < 0x6000 then { m with ramReg := v.setWidth 4 }
  else m

/-- `MBC.interceptWrite(a, v)` for a CPU address below 0x8000; elsewhere it changes nothing (R127, R212). -/
def Cart.intercept (c : Cart) (now : Nat) (a : Word) (v : Byte) : Cart :=
  if a.toNat < 0x8000 then
    match c.mbc with
    | .none => c
    | .mbc1 m => { c with mbc := .mbc1 (m.intercept a v) }
    | .mbc2 m => { c with mbc := .mbc2 (m.intercept a v) }
    | .mbc3 m => { c with mbc := .mbc3 (m.intercept c.romMask now a v) }
    | .mbc5 m => { c with mbc := .mbc5 (m.intercept a v) }
  else c

end Sys2Proof.Machine
end

