-- ==== Sys2Proof/Machine/Mmu.lean ====
section
/-! DEFINITION. The memory map and its two primitives `read8` and `write8` (R125 to R140), and the CPU accesses built on them,
which are outputs of the bus cycle as well (R361). -/

namespace Sys2Proof.Machine

/-- The regions of the routing table (R126). -/
inductive Region where
  | rom | vram | cartRam | wram | echo | oam | unusable | io | hram | ie
deriving DecidableEq, Repr

/-- The routing table, first match wins (R126). -/
def region (a : Word) : Region :=
  if a.toNat < 0x8000 then .rom
  else if a.toNat < 0xA000 then .vram
  else if a.toNat < 0xC000 then .cartRam
  else if a.toNat < 0xE000 then .wram
  else if a.toNat < 0xFE00 then .echo
  else if a.toNat < 0xFEA0 then .oam
  else if a.toNat < 0xFF00 then .unusable
  else if a.toNat < 0xFF80 then .io
  else if a.toNat < 0xFFFF then .hram
  else .ie

/-- The I/O registers (R69, R131, R135, R136). `svbk` and `vbk` exist on CGB only. -/
inductive IoReg where
  | p1 | div | tima | tma | tac | intFlags | dma | svbk | vbk | collaborator
deriving DecidableEq, Repr

/-- Which register an I/O address names (R69, R131, R135, R136). -/
def ioReg (cgb : Bool) (a : Word) : IoReg :=
  if a = 0xFF00 then .p1
  else if a = 0xFF04 then .div
  else if a = 0xFF05 then .tima
  else if a = 0xFF06 then .tma
  else if a = 0xFF07 then .tac
  else if a = 0xFF0F then .intFlags
  else if a = 0xFF46 then .dma
  else if a = 0xFF70 ∧ cgb = true then .svbk
  else if a = 0xFF4F ∧ cgb = true then .vbk
  else .collaborator

/-- The four joypad lines, 0 where pressed (R630). -/
def joypadLines (sel keys : Byte) : BitVec 4 :=
  ~~~((bif sel.getLsbD 4 then 0 else keys.extractLsb' 0 4) ||| (bif sel.getLsbD 5 then 0 else keys.extractLsb' 4 4))

/-- The work RAM bank at 0xD000-0xDFFF on CGB (R130). -/
def wramBank (svbk : BitVec 3) : Nat := if svbk = 0 then 1 else svbk.toNat

/-- `wram(a)` for an address in 0xC000-0xDFFF (R130). -/
def wramOffset (s : State) (a : Word) : Nat :=
  if s.params.cgb ∧ 0xD000 ≤ a.toNat then wramBank s.mem.svbk * 0x1000 + offset a 0xD000 else offset a 0xC000

/-- The address below the echo window that an echo address stands for (R132). -/
def echoBase (a : Word) : Word := a - 0x2000

/-- A read of an I/O address (R69, R136). -/
def readIo (s : State) (a : Word) : Byte :=
  match ioReg s.params.cgb a with
  | .p1 => 0xC0 ||| s.joy.sel ||| (joypadLines s.joy.sel s.env.keys).setWidth 8
  | .div => highByte s.timer.sys
  | .tima => s.timer.tima
  | .tma => s.timer.tma
  | .tac => 0xF8 ||| s.timer.tac.setWidth 8
  | .intFlags => 0xE0 ||| s.intr.flags.setWidth 8
  | .dma => s.dma.reg
  | .svbk => 0xF8 ||| s.mem.svbk.setWidth 8
  | .vbk => Config.ioOracle a s.env.ioWrites s.env.ioReads
  | .collaborator => Config.ioOracle a s.env.ioWrites s.env.ioReads

/-- The value of `read8(a)` (R126 to R138). -/
def read8 (s : State) (a : Word) : Byte :=
  match region a with
  | .rom => s.cart.readRom a
  | .vram => s.mem.vram.read (vramIndex a)
  | .cartRam => s.cart.readRam s.env.now (ramIndex a)
  | .wram => s.mem.wram.read (wramOffset s a)
  | .echo => s.mem.wram.read (wramOffset s (echoBase a))
  | .oam => s.mem.oam.read (oamIndex a)
  | .unusable => 0xFF
  | .io => readIo s a
  | .hram => s.mem.hram.read (hramIndex a)
  | .ie => s.intr.ie

/-- The read reaches a collaborator (R136). -/
def readsCollaborator (cgb : Bool) (a : Word) : Bool :=
  region a == .io && (ioReg cgb a == .collaborator || ioReg cgb a == .vbk)

/-- The effect of `read8(a)`: an RTC access normalises the clock (R139, R285), and a collaborator read lengthens the history its
draws depend on (R136, log 4). No other read has an effect (R139). -/
def afterRead (s : State) (a : Word) : State :=
  { s with
    cart := if region a = .cartRam then s.cart.afterReadRam s.env.now (ramIndex a) else s.cart
    env := { s.env with ioReads := if readsCollaborator s.params.cgb a then s.env.ioReads + 1 else s.env.ioReads } }

/-- A write selects VRAM bank 1 (R131). -/
def selectsVramBank1 (cgb : Bool) (a : Word) (v : Byte) : Bool :=
  region a == .io && ioReg cgb a == .vbk && v.getLsbD 0

/-- A write of an I/O address (R69, R131, R136, R139, R141, R623). -/
def writeIo (s : State) (a : Word) (v : Byte) : State :=
  match ioReg s.params.cgb a with
  | .p1 => { s with joy := { s.joy with sel := v &&& 0x30 } }
  | .div => { s with timer := { s.timer with sys := 0 } }
  | .tima => { s with timer := { s.timer with tima := v, reloadPending := false } }
  | .tma => { s with timer := { s.timer with tma := v } }
  | .tac => { s with timer := { s.timer with tac := v.setWidth 3 } }
  | .intFlags => { s with intr := { s.intr with flags := v.setWidth 5 } }
  | .dma => { s with dma := { reg := v, active := true, started := false, src := word v 0, idx := 0 } }
  | .svbk => { s with mem := { s.mem with svbk := v.setWidth 3 } }
  | .vbk =>
    if v.getLsbD 0 then { s with vbkRefused := true }
    else { s with env := { s.env with ioWrites := { addr := a, value := v } :: s.env.ioWrites } }
  | .collaborator => { s with env := { s.env with ioWrites := { addr := a, value := v } :: s.env.ioWrites } }

/-- Work RAM with the byte `v` at the address `a` of 0xC000-0xDFFF (R130). -/
def writeWram (s : State) (a : Word) (v : Byte) : State :=
  { s with mem := { s.mem with wram := s.mem.wram.write (wramOffset s a) v } }

/-- `write8(a, v)` (R126 to R138), total (R140). -/
def write8 (s : State) (a : Word) (v : Byte) : State :=
  match region a with
  | .rom => { s with cart := s.cart.intercept s.env.now a v }
  | .vram => { s with mem := { s.mem with vram := s.mem.vram.write (vramIndex a) v } }
  | .cartRam => { s with cart := s.cart.writeRam s.env.now (ramIndex a) v }
  | .wram => writeWram s a v
  | .echo => writeWram s (echoBase a) v
  | .oam => { s with mem := { s.mem with oam := s.mem.oam.write (oamIndex a) v } }
  | .unusable => s
  | .io => writeIo s a v
  | .hram => { s with mem := { s.mem with hram := s.mem.hram.write (hramIndex a) v } }
  | .ie => { s with intr := { s.intr with ie := v } }

/-! ## The convenience wrappers of R125. No instruction uses one. -/

/-- `readSigned8(addr)` (R125). -/
def readSigned8 (s : State) (a : Word) : Int := (read8 s a).toInt

/-- `read16(addr)`, its value (R125); the second access follows the first one's effect. -/
def read16 (s : State) (a : Word) : Word := word (read8 (afterRead s a) (a + 1)) (read8 s a)

/-- `write16(addr, v)` (R125). -/
def write16 (s : State) (a v : Word) : State := write8 (write8 s a (lowByte v)) (a + 1) (highByte v)

/-! ## CPU accesses -/

/-- Record a CPU bus access (R361). -/
def logAccess (s : State) (write : Bool) (a : Word) (v : Byte) : State :=
  { s with env := { s.env with bus := { cycle := s.env.cycle, write := write, addr := a, value := v } :: s.env.bus } }

/-- The state after the CPU's `MemRead(a, 1)`, whose value is `read8 s a`. -/
def memRead (s : State) (a : Word) : State := logAccess (afterRead s a) false a (read8 s a)

/-- The CPU's `MemWrite(a, 1, v)`. -/
def memWrite (s : State) (a : Word) (v : Byte) : State := write8 (logAccess s true a v) a v

end Sys2Proof.Machine
end

