-- ==== Sys2Proof/Machine/Phases.lean ====
section
/-! DEFINITION. The parts of a bus cycle beside the CPU phase, in the order of R362: the host's inputs and the IME advance at its
head, and DMA, timer and devices at its tail. Each is one record update, so that what a phase leaves alone is plain. -/

namespace Sys2Proof.Machine

/-! ## The head of a bus cycle -/

/-- The host input of the next bus cycle: the next one of the list, or a free value once the list is used up (log 3). -/
def Env.nextInput (e : Env) : HostInput := hostInput e.inputs (e.cycle + 1)

/-- Sample the inputs, once per bus cycle (R361). CLOCK never decreases (R282, log 5). -/
def sampleInputs (s : State) : State :=
  { s with env := { s.env with
      inputs := s.env.inputs.tail
      keys := s.env.nextInput.keys
      extIrq := s.env.nextInput.extIrq
      now := s.env.now + s.env.nextInput.elapsed
      cycle := s.env.cycle + 1 } }

/-- The IME advance (R363). -/
def Ime.advance : Ime → Ime
  | .disabled => .disabled
  | .requested => .enabling
  | .enabling => .enabled
  | .enabled => .enabled

/-- `imeAdvance()` (R363). -/
def imeAdvance (s : State) : State := { s with eng := { s.eng with ime := s.eng.ime.advance } }

/-- The head of a bus cycle: inputs sampled, IME advanced (R361, R362). -/
def cycleHead (s : State) : State := imeAdvance (sampleInputs s)

/-! ## The tail of a bus cycle -/

/-- This bus cycle copies a byte: the transfer is active and past its start-up cycle (R142). -/
def Dma.copies (d : Dma) : Bool := d.active && d.started

/-- The address the transfer reads (R142). -/
def Dma.source (d : Dma) : Word := d.src + BitVec.ofNat 16 d.idx

/-- `dmaPhase()` (R142, R143). The source goes through `read8`; OAM is written directly. -/
def dmaPhase (s : State) : State :=
  { s with
    dma := { s.dma with
      active := if s.dma.copies ∧ s.dma.idx + 1 = 160 then false else s.dma.active
      started := s.dma.started || s.dma.active
      idx := if s.dma.copies then s.dma.idx + 1 else s.dma.idx }
    mem := { s.mem with
      oam := if s.dma.copies then s.mem.oam.write s.dma.idx (read8 s s.dma.source) else s.mem.oam }
    cart := if s.dma.copies then (afterRead s s.dma.source).cart else s.cart
    env := { s.env with
      ioReads := if s.dma.copies then (afterRead s s.dma.source).env.ioReads else s.env.ioReads } }

/-- `SYS[sel(TAC)]` (R60, R621). -/
def selectedBit (tac : BitVec 3) (sys : Word) : Bool :=
  match tac.setWidth 2 with
  | 0 => sys.getLsbD 9
  | 1 => sys.getLsbD 3
  | 2 => sys.getLsbD 5
  | _ => sys.getLsbD 7

/-- The signal the timer watches: `TAC[2] and SYS[sel(TAC)]` (R621). -/
def Timer.level (t : Timer) : Bool := t.tac.getLsbD 2 && selectedBit t.tac t.sys

/-- TIMA after a reload that is due (R621). -/
def Timer.reloaded (t : Timer) : Byte := if t.reloadPending then t.tma else t.tima

/-- SYS one bus cycle later (R56, R621). -/
def Timer.nextSys (t : Timer) : Word := t.sys + 4

/-- The signal at the end of this timer phase (R621). -/
def Timer.nextSignal (t : Timer) : Bool := t.tac.getLsbD 2 && selectedBit t.tac t.nextSys

/-- The signal falls in this timer phase (R621). -/
def Timer.falls (t : Timer) : Bool := t.signal && !t.nextSignal

/-- The timer one timer phase later (R621). -/
def Timer.advance (t : Timer) : Timer :=
  { sys := t.nextSys
    tima := if t.falls then t.reloaded + 1 else t.reloaded
    tma := t.tma
    tac := t.tac
    signal := t.nextSignal
    reloadPending := t.falls && t.reloaded == 0xFF }

/-- `timerPhase()` (R621): a reload that is due raises TIMER (R622). -/
def timerPhase (s : State) : State :=
  { s with
    timer := s.timer.advance
    intr := { s.intr with flags := if s.timer.reloadPending then s.intr.flags ||| 0b00100 else s.intr.flags } }

/-- The lines in this bus cycle (R630). -/
def lines (s : State) : BitVec 4 := joypadLines s.joy.sel s.env.keys

/-- Some line went from released to pressed (R631). -/
def keyEdge (s : State) : Bool := s.joy.lastLines &&& ~~~(lines s) != 0

/-- The collaborators' requests that count: VBLANK, LCD_STAT and SERIAL (R635). -/
def collaboratorRequests (s : State) : BitVec 5 := s.env.extIrq &&& 0b01011

/-- `devicePhase()`: the joypad edge detector (R631), with the wake from STOPPED (R614), then the collaborators (R635). -/
def devicePhase (s : State) : State :=
  { s with
    intr := { s.intr with
      flags := (if keyEdge s then s.intr.flags ||| 0b10000 else s.intr.flags) ||| collaboratorRequests s }
    joy := { s.joy with lastLines := lines s }
    eng := { s.eng with
      run := match s.eng.run with
        | .stopped => if keyEdge s then .running else .stopped
        | .running => .running
        | .halted => .halted } }

/-- The tail of a bus cycle (R362). -/
def cycleTail (s : State) : State := devicePhase (timerPhase (dmaPhase s))

/-- From the CPU phase of one bus cycle to the CPU phase of the next: the tail of the one, the head of the other. -/
def tick (s : State) : State := cycleHead (cycleTail s)

/-- `n` bus cycles in which the CPU does nothing. -/
def elapse : Nat → State → State
  | 0, s => s
  | n + 1, s => elapse n (tick s)

end Sys2Proof.Machine
end

