-- ==== Sys2Proof/Machine/Ops.lean ====
section
/-! DEFINITION. The shared operations over registers and memory that the micro-ops and the step are built from, with taking an
interrupt (R607), returning from one (R560) and raising the illegal-opcode fault (R370). -/

namespace Sys2Proof.Machine

/-! ## Registers and latches -/

/-- The state with its register file changed. -/
def setRegs (s : State) (f : Regs → Regs) : State := { s with regs := f s.regs }

/-- The state with its operand latches changed. -/
def setCtx (s : State) (f : Ctx → Ctx) : State := { s with eng := { s.eng with ctx := f s.eng.ctx } }

/-- `IME <- v`. -/
def setIme (s : State) (v : Ime) : State := { s with eng := { s.eng with ime := v } }

/-- `PC <- v`. -/
def setPc (s : State) (v : Word) : State := { s with regs := { s.regs with pc := v } }

/-- `SP <- v`. -/
def setSp (s : State) (v : Word) : State := { s with regs := { s.regs with sp := v } }

/-! ## Instruction bytes -/

/-- The state after `imm8`: `MemRead(PC,1); PC <- PC + 1` (R324). The byte is `read8 s s.regs.pc`. -/
def immRead (s : State) : State := setPc (memRead s s.regs.pc) (s.regs.pc + 1)

/-- The opcode byte of a fetch (R366). -/
def fetchedOpcode (s : State) : Byte := read8 s s.regs.pc

/-- An illegal opcode byte (R328). -/
def isIllegalOpcode (op : Byte) : Bool :=
  op == 0xD3 || op == 0xDB || op == 0xDD || op == 0xE3 || op == 0xE4 || op == 0xEB || op == 0xEC || op == 0xED ||
    op == 0xF4 || op == 0xFC || op == 0xFD

/-- The fetch of R366 up to the decoding: the opcode is read at PC, PC advances unless this fetch consumes the HALT bug (R51),
and the latches take the opcode (not an illegal one) and its address. -/
def fetchOpcode (s : State) : State :=
  let t := memRead s s.regs.pc
  { t with
    regs := { t.regs with pc := if s.eng.haltBug then s.regs.pc else s.regs.pc + 1 }
    eng := { t.eng with
      haltBug := false
      ctx := { t.eng.ctx with
        opcode := if isIllegalOpcode (fetchedOpcode s) then t.eng.ctx.opcode else fetchedOpcode s
        addr := s.regs.pc } } }

/-! ## Stack -/

/-- `SP <- SP - 1; MemWrite(SP, 1, v)` (R47, R434). -/
def pushByte (s : State) (v : Byte) : State := memWrite (setSp s (s.regs.sp - 1)) (s.regs.sp - 1) v

/-- The state after `MemRead(SP, 1); SP <- SP + 1` (R47, R435). The byte is `read8 s s.regs.sp`. -/
def popByte (s : State) : State := setSp (memRead s s.regs.sp) (s.regs.sp + 1)

/-! ## Interrupts -/

/-- The pending set `IF & IE & 0x1F` (R603). -/
def pending (s : State) : BitVec 5 := s.intr.flags &&& s.intr.ie.setWidth 5

/-- The index of the lowest set bit, the source serviced first (R601, R605); 4 where no lower bit is set. -/
def lowestBit (p : BitVec 5) : Nat :=
  if p.getLsbD 0 then 0 else if p.getLsbD 1 then 1 else if p.getLsbD 2 then 2 else if p.getLsbD 3 then 3 else 4

/-- The vector of source k (R601). -/
def vector (k : Nat) : Word := 0x0040 + BitVec.ofNat 16 (8 * k)

/-- The dispatch check will service an interrupt (R606, R607). -/
def dispatches (s : State) : Bool := s.eng.ime == .enabled && pending s != 0

/-- Taking an interrupt of source k (R607): its IF bit is cleared, IME is disabled, PC is pushed, high byte first, and PC becomes the
vector. -/
def takeInterrupt (s : State) (k : Nat) : State :=
  let s1 := setIme { s with intr := { s.intr with flags := s.intr.flags &&& ~~~(1#5 <<< k) } } .disabled
  setPc (pushByte (pushByte s1 (highByte s.regs.pc)) (lowByte s.regs.pc)) (vector k)

/-- `dispatchCheck()` (R604 to R608). -/
def dispatchCheck (s : State) : State := if dispatches s then takeInterrupt s (lowestBit (pending s)) else s

/-- The return from an interrupt: PC from the popped bytes and IME enabled at once (R560). -/
def returnFromInterrupt (s : State) : State := setIme (setPc s s.eng.ctx.nn) .enabled

/-! ## Run state -/

/-- HALT (R572): the run state and the HALT bug from IME, the pending set and CGB_MODE. -/
def haltCpu (s : State) : State :=
  { s with eng := { s.eng with
      run := if s.eng.ime = .enabled ∨ pending s = 0 then .halted else s.eng.run
      haltBug := if s.eng.ime = .enabled ∨ pending s = 0 then s.eng.haltBug
        else if s.params.cgb then s.eng.haltBug else true } }

/-- STOP (R573): with `STOP_LENGTH` 2 a second byte is read and ignored. -/
def stopCpu (s : State) : State :=
  let t := match s.params.stopLength with
    | .one => s
    | .two => immRead s
  { t with eng := { t.eng with run := .stopped } }

/-- EI (R575): a request is made only from DISABLED. -/
def requestIme (s : State) : State :=
  setIme s (match s.eng.ime with
    | .disabled => .requested
    | .requested => .requested
    | .enabling => .enabling
    | .enabled => .enabled)

/-! ## Ends of a step -/

/-- The fault of R370: terminal, PC as the fetch left it, the queue empty. -/
def illegal (op : Byte) (s : State) : Host.Outcome State Fault Refusal :=
  .fault (.illegalOpcode op s.eng.ctx.addr
    { s with eng := { s.eng with queue := [], qi := 0, fault := some (op, s.eng.ctx.addr) } })

/-- The next state, unless a write has selected VRAM bank 1 in CGB mode: from that step on the run has no meaning (R131). -/
def finish (s : State) : Host.Outcome State Fault Refusal := if s.vbkRefused then .refused .vramBank1 else .next s

end Sys2Proof.Machine
end

