-- ==== Sys2Proof/Machine/MicroOps.lean ====
section
/-! DEFINITION. What each micro-op does (R364), as the rules of 41_load8.md to 47_system.md say. Each makes at most one CPU bus
access (R124). -/

namespace Sys2Proof.Machine

/-- Read the byte at `a` into `ctx.tmp`. -/
def loadTmp (s : State) (a : Word) : State := setCtx (memRead s a) fun x => { x with tmp := read8 s a }

/-- Fill a latch with the byte at PC (R324). -/
def loadImm (s : State) (l : Latch) : State := setCtx (immRead s) fun x => x.latch l (read8 s s.regs.pc)

/-- Pop a byte into a latch (R435). -/
def popLatch (s : State) (l : Latch) : State := setCtx (popByte s) fun x => x.latch l (read8 s s.regs.sp)

/-- A and F from an accumulator operation (R459 to R482, R487, R488, R511 to R514). -/
def setAF (s : State) (r : Byte × Byte) : State := setRegs s fun g => { g with a := r.1, f := r.2 }

/-- A register and F from an operation on it (R483, R484, R523 to R530). -/
def setRegF (s : State) (x : Reg8) (r : Byte × Byte) : State := setRegs s fun g => { g.set x r.1 with f := r.2 }

/-- F alone. -/
def setF (s : State) (f : Byte) : State := setRegs s fun g => { g with f := f }

/-- The byte at HL and F from an operation on `ctx.tmp` (R485, R486, R531 to R538). -/
def storeHlF (s : State) (r : Byte × Byte) : State := memWrite (setF s r.2) s.regs.hl r.1

/-- The prefix micro-op (R367): the second byte is read as an immediate and the queue becomes `[μ1] ++ cbMicroops(cb)`. -/
def prefixByte (s : State) : State :=
  let t := immRead s
  { t with eng := { t.eng with queue := does .prefixCB :: cbMicroops (read8 s s.regs.pc) } }

/-- What a micro-op does to the state. Advancing the queue is the engine's (R365). -/
def micro (op : MicroOp) (s : State) : State :=
  match op with
  | .pad => s
  | .imm l => loadImm s l
  | .load m => loadTmp s (address m s.regs s.eng.ctx)
  | .loadHlInc => setRegs (loadTmp s s.regs.hl) fun g => g.setHl (g.hl + 1)
  | .loadHlDec => setRegs (loadTmp s s.regs.hl) fun g => g.setHl (g.hl - 1)
  | .store m v => memWrite s (address m s.regs s.eng.ctx) (v.value s.regs s.eng.ctx)
  | .storeHlInc => setRegs (memWrite s s.regs.hl s.regs.a) fun g => g.setHl (g.hl + 1)
  | .storeHlDec => setRegs (memWrite s s.regs.hl s.regs.a) fun g => g.setHl (g.hl - 1)
  | .copyReg d r => setRegs s fun g => g.set d (g.get r)
  | .regFromTmp r => setRegs s fun g => g.set r s.eng.ctx.tmp
  | .pairFromNn dd => setRegs s fun g => g.setPair dd s.eng.ctx.nn
  | .storeSpLow => memWrite s s.eng.ctx.nn (lowByte s.regs.sp)
  | .storeSpHigh => memWrite s (s.eng.ctx.nn + 1) (highByte s.regs.sp)
  | .spFromHl => setSp s s.regs.hl
  | .hlFromSpE =>
    let r := addSpOffset s.regs.sp s.eng.ctx.e
    setRegs s fun g => { g.setHl r.1 with f := r.2 }
  | .addSpE =>
    let r := addSpOffset s.regs.sp s.eng.ctx.e
    setRegs s fun g => { g with sp := r.1, f := r.2 }
  | .pushHigh qq => pushByte s (highByte (s.regs.qpair qq))
  | .pushLow qq => pushByte s (lowByte (s.regs.qpair qq))
  | .pushPcHigh => pushByte s (highByte s.regs.pc)
  | .pushPcLow => pushByte s (lowByte s.regs.pc)
  | .popLsb => popLatch s .lsb
  | .popMsb => popLatch s .msb
  | .qpairFromNn qq => setRegs s fun g => g.setQPair qq s.eng.ctx.nn
  | .aluReg op r => setAF s (alu op s.regs.a (s.regs.get r) s.regs.f)
  | .aluTmp op => setAF s (alu op s.regs.a s.eng.ctx.tmp s.regs.f)
  | .incReg r => setRegF s r (inc8 (s.regs.get r) s.regs.f)
  | .decReg r => setRegF s r (dec8 (s.regs.get r) s.regs.f)
  | .incMem => storeHlF s (inc8 s.eng.ctx.tmp s.regs.f)
  | .decMem => storeHlF s (dec8 s.eng.ctx.tmp s.regs.f)
  | .daa => setAF s (daa8 s.regs.a s.regs.f)
  | .cpl => setAF s (cpl8 s.regs.a s.regs.f)
  | .scf => setF s (scfFlags s.regs.f)
  | .ccf => setF s (ccfFlags s.regs.f)
  | .addHl dd =>
    let r := addHl16 s.regs.hl (s.regs.pair dd) s.regs.f
    setRegs s fun g => { g.setHl r.1 with f := r.2 }
  | .incPair dd => setRegs s fun g => g.setPair dd (g.pair dd + 1)
  | .decPair dd => setRegs s fun g => g.setPair dd (g.pair dd - 1)
  | .rlca => setAF s (rotateA .rlc s.regs.a s.regs.f)
  | .rrca => setAF s (rotateA .rrc s.regs.a s.regs.f)
  | .rla => setAF s (rotateA .rl s.regs.a s.regs.f)
  | .rra => setAF s (rotateA .rr s.regs.a s.regs.f)
  | .rotReg op r => setRegF s r (rotate op (s.regs.get r) s.regs.f)
  | .rotMem op => storeHlF s (rotate op s.eng.ctx.tmp s.regs.f)
  | .bitReg b r => setF s (bitFlags b (s.regs.get r) s.regs.f)
  | .bitTmp b => setF s (bitFlags b s.eng.ctx.tmp s.regs.f)
  | .resReg b r => setRegs s fun g => g.set r (resetBit b (g.get r))
  | .resMem b => memWrite s s.regs.hl (resetBit b s.eng.ctx.tmp)
  | .setReg b r => setRegs s fun g => g.set r (setBit b (g.get r))
  | .setMem b => memWrite s s.regs.hl (setBit b s.eng.ctx.tmp)
  | .jumpNn => setPc s s.eng.ctx.nn
  | .jumpHl => setPc s s.regs.hl
  | .jumpRel => setPc s (s.regs.pc + signExtend8 s.eng.ctx.e)
  | .restart t => setPc s (BitVec.ofNat 16 (8 * t.val))
  | .jumpNnEnable => returnFromInterrupt s
  | .halt => haltCpu s
  | .stop => stopCpu s
  | .di => setIme s .disabled
  | .ei => requestIme s
  | .prefixCB => prefixByte s

/-- A micro-op's condition holds (R323, R364). -/
def Micro.holds (m : Micro) (s : State) : Bool :=
  match m.guard with
  | none => true
  | some cc => condHolds cc s.regs.f

/-- One micro-op of the queue (R364, R365): its work and `qi + 1`, or, where its condition fails, nothing but the truncation of
the queue. -/
def runMicro (m : Micro) (s : State) : State :=
  if m.holds s then
    let t := micro m.op s
    { t with eng := { t.eng with qi := t.eng.qi + 1 } }
  else { s with eng := { s.eng with qi := s.eng.queue.length } }

end Sys2Proof.Machine
end

