-- ==== Sys2Proof/Machine/Engine.lean ====
section
/-! DEFINITION. Running the rest of an instruction's micro-ops, each in a bus cycle of its own (R364, R371). -/

namespace Sys2Proof.Machine

/-- Run the listed micro-ops, each in the CPU phase of a new bus cycle; one whose condition fails ends the instruction (R364). -/
def runRest : List Micro → State → State
  | [], s => s
  | m :: rest, s => if m.holds (tick s) then runRest rest (runMicro m (tick s)) else runMicro m (tick s)

/-- The state whose queue is `ops`, of which `k` micro-ops have run. -/
def withQueue (s : State) (ops : List Micro) (k : Nat) : State := { s with eng := { s.eng with queue := ops, qi := k } }

/-- The meaning of an instruction with the micro-ops `ops`, the first `k` of which the step has run: those that read its
immediate bytes or its CB byte. -/
def runFrom (k : Nat) (ops : List Micro) (s : State) : Host.Outcome State Fault Refusal :=
  finish (runRest (ops.drop k) (withQueue s ops k))

/-- The prefix byte (R367): its micro-op, then what that micro-op has put in the queue. -/
def runPrefix (s : State) : Host.Outcome State Fault Refusal :=
  let t := runRest Microcode.prefixCB (withQueue s Microcode.prefixCB 0)
  finish (runRest (t.eng.queue.drop 1) t)

/-- `ctx.tmp` as the immediate read leaves it. -/
def withTmp (n : Byte) (s : State) : State := setCtx s (·.latch .tmp n)

/-- `ctx.lsb` as the immediate read leaves it. -/
def withLsb (n : Byte) (s : State) : State := setCtx s (·.latch .lsb n)

/-- `ctx.e` as the immediate read leaves it. -/
def withE (e : Byte) (s : State) : State := setCtx s (·.latch .e e)

/-- `ctx.lsb` and `ctx.msb` as the two immediate reads leave them. -/
def withNn (nn : Word) (s : State) : State := setCtx s fun x => (x.latch .lsb (lowByte nn)).latch .msb (highByte nn)

end Sys2Proof.Machine
end

