-- ==== Sys2Proof/Machine/Alu16.lean ====
section
/-! DEFINITION. 16-bit arithmetic (R501 to R504): one meaning per instruction. Each runs the instruction's micro-ops, which
Microcode.lean lists, from the first one that the step has not run yet: the step reads an instruction's immediate bytes and its CB
byte, and hands them over decoded (log 2). -/

namespace Sys2Proof.Machine

/-- `ADD SP,e` (R504). -/
def execADD_SP_e (e : Byte) (s : State) : Host.Outcome State Fault Refusal :=
  runFrom 1 (Microcode.addSpE) (withE e s)

/-- `INC BC` (R502). -/
def execINC_BC (s : State) : Host.Outcome State Fault Refusal :=
  runFrom 0 (Microcode.incPair .bc) s

/-- `ADD HL,BC` (R501). -/
def execADD_HL_BC (s : State) : Host.Outcome State Fault Refusal :=
  runFrom 0 (Microcode.addHl .bc) s

/-- `DEC BC` (R503). -/
def execDEC_BC (s : State) : Host.Outcome State Fault Refusal :=
  runFrom 0 (Microcode.decPair .bc) s

/-- `INC DE` (R502). -/
def execINC_DE (s : State) : Host.Outcome State Fault Refusal :=
  runFrom 0 (Microcode.incPair .de) s

/-- `ADD HL,DE` (R501). -/
def execADD_HL_DE (s : State) : Host.Outcome State Fault Refusal :=
  runFrom 0 (Microcode.addHl .de) s

/-- `DEC DE` (R503). -/
def execDEC_DE (s : State) : Host.Outcome State Fault Refusal :=
  runFrom 0 (Microcode.decPair .de) s

/-- `INC HL` (R502). -/
def execINC_HL (s : State) : Host.Outcome State Fault Refusal :=
  runFrom 0 (Microcode.incPair .hl) s

/-- `ADD HL,HL` (R501). -/
def execADD_HL_HL (s : State) : Host.Outcome State Fault Refusal :=
  runFrom 0 (Microcode.addHl .hl) s

/-- `DEC HL` (R503). -/
def execDEC_HL (s : State) : Host.Outcome State Fault Refusal :=
  runFrom 0 (Microcode.decPair .hl) s

/-- `INC SP` (R502). -/
def execINC_SP (s : State) : Host.Outcome State Fault Refusal :=
  runFrom 0 (Microcode.incPair .sp) s

/-- `ADD HL,SP` (R501). -/
def execADD_HL_SP (s : State) : Host.Outcome State Fault Refusal :=
  runFrom 0 (Microcode.addHl .sp) s

/-- `DEC SP` (R503). -/
def execDEC_SP (s : State) : Host.Outcome State Fault Refusal :=
  runFrom 0 (Microcode.decPair .sp) s

end Sys2Proof.Machine
end

