-- ==== Sys2Proof/Machine/Alu8.lean ====
section
/-! DEFINITION. 8-bit arithmetic and logic (R451 to R490): one meaning per instruction. Each runs the instruction's micro-ops, which
Microcode.lean lists, from the first one that the step has not run yet: the step reads an instruction's immediate bytes and its CB
byte, and hands them over decoded (log 2). -/

namespace Sys2Proof.Machine

/-- `ADD A,n` (R475). -/
def execADD_A_n (n : Byte) (s : State) : Host.Outcome State Fault Refusal :=
  runFrom 1 (Microcode.aluImm .add) (withTmp n s)

/-- `ADC A,n` (R476). -/
def execADC_A_n (n : Byte) (s : State) : Host.Outcome State Fault Refusal :=
  runFrom 1 (Microcode.aluImm .adc) (withTmp n s)

/-- `SUB A,n` (R477). -/
def execSUB_A_n (n : Byte) (s : State) : Host.Outcome State Fault Refusal :=
  runFrom 1 (Microcode.aluImm .sub) (withTmp n s)

/-- `SBC A,n` (R478). -/
def execSBC_A_n (n : Byte) (s : State) : Host.Outcome State Fault Refusal :=
  runFrom 1 (Microcode.aluImm .sbc) (withTmp n s)

/-- `AND A,n` (R479). -/
def execAND_A_n (n : Byte) (s : State) : Host.Outcome State Fault Refusal :=
  runFrom 1 (Microcode.aluImm .and) (withTmp n s)

/-- `XOR A,n` (R480). -/
def execXOR_A_n (n : Byte) (s : State) : Host.Outcome State Fault Refusal :=
  runFrom 1 (Microcode.aluImm .xor) (withTmp n s)

/-- `OR A,n` (R481). -/
def execOR_A_n (n : Byte) (s : State) : Host.Outcome State Fault Refusal :=
  runFrom 1 (Microcode.aluImm .or) (withTmp n s)

/-- `CP A,n` (R482). -/
def execCP_A_n (n : Byte) (s : State) : Host.Outcome State Fault Refusal :=
  runFrom 1 (Microcode.aluImm .cp) (withTmp n s)

/-- `INC B` (R483). -/
def execINC_B (s : State) : Host.Outcome State Fault Refusal :=
  runFrom 0 (Microcode.incReg .b) s

/-- `DEC B` (R484). -/
def execDEC_B (s : State) : Host.Outcome State Fault Refusal :=
  runFrom 0 (Microcode.decReg .b) s

/-- `INC C` (R483). -/
def execINC_C (s : State) : Host.Outcome State Fault Refusal :=
  runFrom 0 (Microcode.incReg .c) s

/-- `DEC C` (R484). -/
def execDEC_C (s : State) : Host.Outcome State Fault Refusal :=
  runFrom 0 (Microcode.decReg .c) s

/-- `INC D` (R483). -/
def execINC_D (s : State) : Host.Outcome State Fault Refusal :=
  runFrom 0 (Microcode.incReg .d) s

/-- `DEC D` (R484). -/
def execDEC_D (s : State) : Host.Outcome State Fault Refusal :=
  runFrom 0 (Microcode.decReg .d) s

/-- `INC E` (R483). -/
def execINC_E (s : State) : Host.Outcome State Fault Refusal :=
  runFrom 0 (Microcode.incReg .e) s

/-- `DEC E` (R484). -/
def execDEC_E (s : State) : Host.Outcome State Fault Refusal :=
  runFrom 0 (Microcode.decReg .e) s

/-- `INC H` (R483). -/
def execINC_H (s : State) : Host.Outcome State Fault Refusal :=
  runFrom 0 (Microcode.incReg .h) s

/-- `DEC H` (R484). -/
def execDEC_H (s : State) : Host.Outcome State Fault Refusal :=
  runFrom 0 (Microcode.decReg .h) s

/-- `DAA` (R487). -/
def execDAA (s : State) : Host.Outcome State Fault Refusal :=
  runFrom 0 (Microcode.daa) s

/-- `INC L` (R483). -/
def execINC_L (s : State) : Host.Outcome State Fault Refusal :=
  runFrom 0 (Microcode.incReg .l) s

/-- `DEC L` (R484). -/
def execDEC_L (s : State) : Host.Outcome State Fault Refusal :=
  runFrom 0 (Microcode.decReg .l) s

/-- `CPL` (R488). -/
def execCPL (s : State) : Host.Outcome State Fault Refusal :=
  runFrom 0 (Microcode.cpl) s

/-- `INC (HL)` (R485). -/
def execINC_mHL (s : State) : Host.Outcome State Fault Refusal :=
  runFrom 0 (Microcode.incHl) s

/-- `DEC (HL)` (R486). -/
def execDEC_mHL (s : State) : Host.Outcome State Fault Refusal :=
  runFrom 0 (Microcode.decHl) s

/-- `SCF` (R489). -/
def execSCF (s : State) : Host.Outcome State Fault Refusal :=
  runFrom 0 (Microcode.scf) s

/-- `INC A` (R483). -/
def execINC_A (s : State) : Host.Outcome State Fault Refusal :=
  runFrom 0 (Microcode.incReg .a) s

/-- `DEC A` (R484). -/
def execDEC_A (s : State) : Host.Outcome State Fault Refusal :=
  runFrom 0 (Microcode.decReg .a) s

/-- `CCF` (R490). -/
def execCCF (s : State) : Host.Outcome State Fault Refusal :=
  runFrom 0 (Microcode.ccf) s

/-- `ADD A,B` (R459). -/
def execADD_A_B (s : State) : Host.Outcome State Fault Refusal :=
  runFrom 0 (Microcode.aluReg .add .b) s

/-- `ADD A,C` (R459). -/
def execADD_A_C (s : State) : Host.Outcome State Fault Refusal :=
  runFrom 0 (Microcode.aluReg .add .c) s

/-- `ADD A,D` (R459). -/
def execADD_A_D (s : State) : Host.Outcome State Fault Refusal :=
  runFrom 0 (Microcode.aluReg .add .d) s

/-- `ADD A,E` (R459). -/
def execADD_A_E (s : State) : Host.Outcome State Fault Refusal :=
  runFrom 0 (Microcode.aluReg .add .e) s

/-- `ADD A,H` (R459). -/
def execADD_A_H (s : State) : Host.Outcome State Fault Refusal :=
  runFrom 0 (Microcode.aluReg .add .h) s

/-- `ADD A,L` (R459). -/
def execADD_A_L (s : State) : Host.Outcome State Fault Refusal :=
  runFrom 0 (Microcode.aluReg .add .l) s

/-- `ADD A,(HL)` (R467). -/
def execADD_A_mHL (s : State) : Host.Outcome State Fault Refusal :=
  runFrom 0 (Microcode.aluHl .add) s

/-- `ADD A,A` (R459). -/
def execADD_A_A (s : State) : Host.Outcome State Fault Refusal :=
  runFrom 0 (Microcode.aluReg .add .a) s

/-- `ADC A,B` (R460). -/
def execADC_A_B (s : State) : Host.Outcome State Fault Refusal :=
  runFrom 0 (Microcode.aluReg .adc .b) s

/-- `ADC A,C` (R460). -/
def execADC_A_C (s : State) : Host.Outcome State Fault Refusal :=
  runFrom 0 (Microcode.aluReg .adc .c) s

/-- `ADC A,D` (R460). -/
def execADC_A_D (s : State) : Host.Outcome State Fault Refusal :=
  runFrom 0 (Microcode.aluReg .adc .d) s

/-- `ADC A,E` (R460). -/
def execADC_A_E (s : State) : Host.Outcome State Fault Refusal :=
  runFrom 0 (Microcode.aluReg .adc .e) s

/-- `ADC A,H` (R460). -/
def execADC_A_H (s : State) : Host.Outcome State Fault Refusal :=
  runFrom 0 (Microcode.aluReg .adc .h) s

/-- `ADC A,L` (R460). -/
def execADC_A_L (s : State) : Host.Outcome State Fault Refusal :=
  runFrom 0 (Microcode.aluReg .adc .l) s

/-- `ADC A,(HL)` (R468). -/
def execADC_A_mHL (s : State) : Host.Outcome State Fault Refusal :=
  runFrom 0 (Microcode.aluHl .adc) s

/-- `ADC A,A` (R460). -/
def execADC_A_A (s : State) : Host.Outcome State Fault Refusal :=
  runFrom 0 (Microcode.aluReg .adc .a) s

/-- `SUB A,B` (R461). -/
def execSUB_A_B (s : State) : Host.Outcome State Fault Refusal :=
  runFrom 0 (Microcode.aluReg .sub .b) s

/-- `SUB A,C` (R461). -/
def execSUB_A_C (s : State) : Host.Outcome State Fault Refusal :=
  runFrom 0 (Microcode.aluReg .sub .c) s

/-- `SUB A,D` (R461). -/
def execSUB_A_D (s : State) : Host.Outcome State Fault Refusal :=
  runFrom 0 (Microcode.aluReg .sub .d) s

/-- `SUB A,E` (R461). -/
def execSUB_A_E (s : State) : Host.Outcome State Fault Refusal :=
  runFrom 0 (Microcode.aluReg .sub .e) s

/-- `SUB A,H` (R461). -/
def execSUB_A_H (s : State) : Host.Outcome State Fault Refusal :=
  runFrom 0 (Microcode.aluReg .sub .h) s

/-- `SUB A,L` (R461). -/
def execSUB_A_L (s : State) : Host.Outcome State Fault Refusal :=
  runFrom 0 (Microcode.aluReg .sub .l) s

/-- `SUB A,(HL)` (R469). -/
def execSUB_A_mHL (s : State) : Host.Outcome State Fault Refusal :=
  runFrom 0 (Microcode.aluHl .sub) s

/-- `SUB A,A` (R461). -/
def execSUB_A_A (s : State) : Host.Outcome State Fault Refusal :=
  runFrom 0 (Microcode.aluReg .sub .a) s

/-- `SBC A,B` (R462). -/
def execSBC_A_B (s : State) : Host.Outcome State Fault Refusal :=
  runFrom 0 (Microcode.aluReg .sbc .b) s

/-- `SBC A,C` (R462). -/
def execSBC_A_C (s : State) : Host.Outcome State Fault Refusal :=
  runFrom 0 (Microcode.aluReg .sbc .c) s

/-- `SBC A,D` (R462). -/
def execSBC_A_D (s : State) : Host.Outcome State Fault Refusal :=
  runFrom 0 (Microcode.aluReg .sbc .d) s

/-- `SBC A,E` (R462). -/
def execSBC_A_E (s : State) : Host.Outcome State Fault Refusal :=
  runFrom 0 (Microcode.aluReg .sbc .e) s

/-- `SBC A,H` (R462). -/
def execSBC_A_H (s : State) : Host.Outcome State Fault Refusal :=
  runFrom 0 (Microcode.aluReg .sbc .h) s

/-- `SBC A,L` (R462). -/
def execSBC_A_L (s : State) : Host.Outcome State Fault Refusal :=
  runFrom 0 (Microcode.aluReg .sbc .l) s

/-- `SBC A,(HL)` (R470). -/
def execSBC_A_mHL (s : State) : Host.Outcome State Fault Refusal :=
  runFrom 0 (Microcode.aluHl .sbc) s

/-- `SBC A,A` (R462). -/
def execSBC_A_A (s : State) : Host.Outcome State Fault Refusal :=
  runFrom 0 (Microcode.aluReg .sbc .a) s

/-- `AND A,B` (R463). -/
def execAND_A_B (s : State) : Host.Outcome State Fault Refusal :=
  runFrom 0 (Microcode.aluReg .and .b) s

/-- `AND A,C` (R463). -/
def execAND_A_C (s : State) : Host.Outcome State Fault Refusal :=
  runFrom 0 (Microcode.aluReg .and .c) s

/-- `AND A,D` (R463). -/
def execAND_A_D (s : State) : Host.Outcome State Fault Refusal :=
  runFrom 0 (Microcode.aluReg .and .d) s

/-- `AND A,E` (R463). -/
def execAND_A_E (s : State) : Host.Outcome State Fault Refusal :=
  runFrom 0 (Microcode.aluReg .and .e) s

/-- `AND A,H` (R463). -/
def execAND_A_H (s : State) : Host.Outcome State Fault Refusal :=
  runFrom 0 (Microcode.aluReg .and .h) s

/-- `AND A,L` (R463). -/
def execAND_A_L (s : State) : Host.Outcome State Fault Refusal :=
  runFrom 0 (Microcode.aluReg .and .l) s

/-- `AND A,(HL)` (R471). -/
def execAND_A_mHL (s : State) : Host.Outcome State Fault Refusal :=
  runFrom 0 (Microcode.aluHl .and) s

/-- `AND A,A` (R463). -/
def execAND_A_A (s : State) : Host.Outcome State Fault Refusal :=
  runFrom 0 (Microcode.aluReg .and .a) s

/-- `XOR A,B` (R464). -/
def execXOR_A_B (s : State) : Host.Outcome State Fault Refusal :=
  runFrom 0 (Microcode.aluReg .xor .b) s

/-- `XOR A,C` (R464). -/
def execXOR_A_C (s : State) : Host.Outcome State Fault Refusal :=
  runFrom 0 (Microcode.aluReg .xor .c) s

/-- `XOR A,D` (R464). -/
def execXOR_A_D (s : State) : Host.Outcome State Fault Refusal :=
  runFrom 0 (Microcode.aluReg .xor .d) s

/-- `XOR A,E` (R464). -/
def execXOR_A_E (s : State) : Host.Outcome State Fault Refusal :=
  runFrom 0 (Microcode.aluReg .xor .e) s

/-- `XOR A,H` (R464). -/
def execXOR_A_H (s : State) : Host.Outcome State Fault Refusal :=
  runFrom 0 (Microcode.aluReg .xor .h) s

/-- `XOR A,L` (R464). -/
def execXOR_A_L (s : State) : Host.Outcome State Fault Refusal :=
  runFrom 0 (Microcode.aluReg .xor .l) s

/-- `XOR A,(HL)` (R472). -/
def execXOR_A_mHL (s : State) : Host.Outcome State Fault Refusal :=
  runFrom 0 (Microcode.aluHl .xor) s

/-- `XOR A,A` (R464). -/
def execXOR_A_A (s : State) : Host.Outcome State Fault Refusal :=
  runFrom 0 (Microcode.aluReg .xor .a) s

/-- `OR A,B` (R465). -/
def execOR_A_B (s : State) : Host.Outcome State Fault Refusal :=
  runFrom 0 (Microcode.aluReg .or .b) s

/-- `OR A,C` (R465). -/
def execOR_A_C (s : State) : Host.Outcome State Fault Refusal :=
  runFrom 0 (Microcode.aluReg .or .c) s

/-- `OR A,D` (R465). -/
def execOR_A_D (s : State) : Host.Outcome State Fault Refusal :=
  runFrom 0 (Microcode.aluReg .or .d) s

/-- `OR A,E` (R465). -/
def execOR_A_E (s : State) : Host.Outcome State Fault Refusal :=
  runFrom 0 (Microcode.aluReg .or .e) s

/-- `OR A,H` (R465). -/
def execOR_A_H (s : State) : Host.Outcome State Fault Refusal :=
  runFrom 0 (Microcode.aluReg .or .h) s

/-- `OR A,L` (R465). -/
def execOR_A_L (s : State) : Host.Outcome State Fault Refusal :=
  runFrom 0 (Microcode.aluReg .or .l) s

/-- `OR A,(HL)` (R473). -/
def execOR_A_mHL (s : State) : Host.Outcome State Fault Refusal :=
  runFrom 0 (Microcode.aluHl .or) s

/-- `OR A,A` (R465). -/
def execOR_A_A (s : State) : Host.Outcome State Fault Refusal :=
  runFrom 0 (Microcode.aluReg .or .a) s

/-- `CP A,B` (R466). -/
def execCP_A_B (s : State) : Host.Outcome State Fault Refusal :=
  runFrom 0 (Microcode.aluReg .cp .b) s

/-- `CP A,C` (R466). -/
def execCP_A_C (s : State) : Host.Outcome State Fault Refusal :=
  runFrom 0 (Microcode.aluReg .cp .c) s

/-- `CP A,D` (R466). -/
def execCP_A_D (s : State) : Host.Outcome State Fault Refusal :=
  runFrom 0 (Microcode.aluReg .cp .d) s

/-- `CP A,E` (R466). -/
def execCP_A_E (s : State) : Host.Outcome State Fault Refusal :=
  runFrom 0 (Microcode.aluReg .cp .e) s

/-- `CP A,H` (R466). -/
def execCP_A_H (s : State) : Host.Outcome State Fault Refusal :=
  runFrom 0 (Microcode.aluReg .cp .h) s

/-- `CP A,L` (R466). -/
def execCP_A_L (s : State) : Host.Outcome State Fault Refusal :=
  runFrom 0 (Microcode.aluReg .cp .l) s

/-- `CP A,(HL)` (R474). -/
def execCP_A_mHL (s : State) : Host.Outcome State Fault Refusal :=
  runFrom 0 (Microcode.aluHl .cp) s

/-- `CP A,A` (R466). -/
def execCP_A_A (s : State) : Host.Outcome State Fault Refusal :=
  runFrom 0 (Microcode.aluReg .cp .a) s

end Sys2Proof.Machine
end

