-- ==== Sys2Proof/Machine/Bits.lean ====
section
/-! DEFINITION. BIT, RES and SET (R539 to R544): one meaning per instruction. Each runs the instruction's micro-ops, which
Microcode.lean lists, from the first one that the step has not run yet: the step reads an instruction's immediate bytes and its CB
byte, and hands them over decoded (log 2). -/

namespace Sys2Proof.Machine

/-- `BIT 0,B` (R539). -/
def execBIT_0_B (s : State) : Host.Outcome State Fault Refusal :=
  runFrom 1 (Microcode.bitReg 0 .b) s

/-- `BIT 0,C` (R539). -/
def execBIT_0_C (s : State) : Host.Outcome State Fault Refusal :=
  runFrom 1 (Microcode.bitReg 0 .c) s

/-- `BIT 0,D` (R539). -/
def execBIT_0_D (s : State) : Host.Outcome State Fault Refusal :=
  runFrom 1 (Microcode.bitReg 0 .d) s

/-- `BIT 0,E` (R539). -/
def execBIT_0_E (s : State) : Host.Outcome State Fault Refusal :=
  runFrom 1 (Microcode.bitReg 0 .e) s

/-- `BIT 0,H` (R539). -/
def execBIT_0_H (s : State) : Host.Outcome State Fault Refusal :=
  runFrom 1 (Microcode.bitReg 0 .h) s

/-- `BIT 0,L` (R539). -/
def execBIT_0_L (s : State) : Host.Outcome State Fault Refusal :=
  runFrom 1 (Microcode.bitReg 0 .l) s

/-- `BIT 0,(HL)` (R540). -/
def execBIT_0_mHL (s : State) : Host.Outcome State Fault Refusal :=
  runFrom 1 (Microcode.bitHl 0) s

/-- `BIT 0,A` (R539). -/
def execBIT_0_A (s : State) : Host.Outcome State Fault Refusal :=
  runFrom 1 (Microcode.bitReg 0 .a) s

/-- `BIT 1,B` (R539). -/
def execBIT_1_B (s : State) : Host.Outcome State Fault Refusal :=
  runFrom 1 (Microcode.bitReg 1 .b) s

/-- `BIT 1,C` (R539). -/
def execBIT_1_C (s : State) : Host.Outcome State Fault Refusal :=
  runFrom 1 (Microcode.bitReg 1 .c) s

/-- `BIT 1,D` (R539). -/
def execBIT_1_D (s : State) : Host.Outcome State Fault Refusal :=
  runFrom 1 (Microcode.bitReg 1 .d) s

/-- `BIT 1,E` (R539). -/
def execBIT_1_E (s : State) : Host.Outcome State Fault Refusal :=
  runFrom 1 (Microcode.bitReg 1 .e) s

/-- `BIT 1,H` (R539). -/
def execBIT_1_H (s : State) : Host.Outcome State Fault Refusal :=
  runFrom 1 (Microcode.bitReg 1 .h) s

/-- `BIT 1,L` (R539). -/
def execBIT_1_L (s : State) : Host.Outcome State Fault Refusal :=
  runFrom 1 (Microcode.bitReg 1 .l) s

/-- `BIT 1,(HL)` (R540). -/
def execBIT_1_mHL (s : State) : Host.Outcome State Fault Refusal :=
  runFrom 1 (Microcode.bitHl 1) s

/-- `BIT 1,A` (R539). -/
def execBIT_1_A (s : State) : Host.Outcome State Fault Refusal :=
  runFrom 1 (Microcode.bitReg 1 .a) s

/-- `BIT 2,B` (R539). -/
def execBIT_2_B (s : State) : Host.Outcome State Fault Refusal :=
  runFrom 1 (Microcode.bitReg 2 .b) s

/-- `BIT 2,C` (R539). -/
def execBIT_2_C (s : State) : Host.Outcome State Fault Refusal :=
  runFrom 1 (Microcode.bitReg 2 .c) s

/-- `BIT 2,D` (R539). -/
def execBIT_2_D (s : State) : Host.Outcome State Fault Refusal :=
  runFrom 1 (Microcode.bitReg 2 .d) s

/-- `BIT 2,E` (R539). -/
def execBIT_2_E (s : State) : Host.Outcome State Fault Refusal :=
  runFrom 1 (Microcode.bitReg 2 .e) s

/-- `BIT 2,H` (R539). -/
def execBIT_2_H (s : State) : Host.Outcome State Fault Refusal :=
  runFrom 1 (Microcode.bitReg 2 .h) s

/-- `BIT 2,L` (R539). -/
def execBIT_2_L (s : State) : Host.Outcome State Fault Refusal :=
  runFrom 1 (Microcode.bitReg 2 .l) s

/-- `BIT 2,(HL)` (R540). -/
def execBIT_2_mHL (s : State) : Host.Outcome State Fault Refusal :=
  runFrom 1 (Microcode.bitHl 2) s

/-- `BIT 2,A` (R539). -/
def execBIT_2_A (s : State) : Host.Outcome State Fault Refusal :=
  runFrom 1 (Microcode.bitReg 2 .a) s

/-- `BIT 3,B` (R539). -/
def execBIT_3_B (s : State) : Host.Outcome State Fault Refusal :=
  runFrom 1 (Microcode.bitReg 3 .b) s

/-- `BIT 3,C` (R539). -/
def execBIT_3_C (s : State) : Host.Outcome State Fault Refusal :=
  runFrom 1 (Microcode.bitReg 3 .c) s

/-- `BIT 3,D` (R539). -/
def execBIT_3_D (s : State) : Host.Outcome State Fault Refusal :=
  runFrom 1 (Microcode.bitReg 3 .d) s

/-- `BIT 3,E` (R539). -/
def execBIT_3_E (s : State) : Host.Outcome State Fault Refusal :=
  runFrom 1 (Microcode.bitReg 3 .e) s

/-- `BIT 3,H` (R539). -/
def execBIT_3_H (s : State) : Host.Outcome State Fault Refusal :=
  runFrom 1 (Microcode.bitReg 3 .h) s

/-- `BIT 3,L` (R539). -/
def execBIT_3_L (s : State) : Host.Outcome State Fault Refusal :=
  runFrom 1 (Microcode.bitReg 3 .l) s

/-- `BIT 3,(HL)` (R540). -/
def execBIT_3_mHL (s : State) : Host.Outcome State Fault Refusal :=
  runFrom 1 (Microcode.bitHl 3) s

/-- `BIT 3,A` (R539). -/
def execBIT_3_A (s : State) : Host.Outcome State Fault Refusal :=
  runFrom 1 (Microcode.bitReg 3 .a) s

/-- `BIT 4,B` (R539). -/
def execBIT_4_B (s : State) : Host.Outcome State Fault Refusal :=
  runFrom 1 (Microcode.bitReg 4 .b) s

/-- `BIT 4,C` (R539). -/
def execBIT_4_C (s : State) : Host.Outcome State Fault Refusal :=
  runFrom 1 (Microcode.bitReg 4 .c) s

/-- `BIT 4,D` (R539). -/
def execBIT_4_D (s : State) : Host.Outcome State Fault Refusal :=
  runFrom 1 (Microcode.bitReg 4 .d) s

/-- `BIT 4,E` (R539). -/
def execBIT_4_E (s : State) : Host.Outcome State Fault Refusal :=
  runFrom 1 (Microcode.bitReg 4 .e) s

/-- `BIT 4,H` (R539). -/
def execBIT_4_H (s : State) : Host.Outcome State Fault Refusal :=
  runFrom 1 (Microcode.bitReg 4 .h) s

/-- `BIT 4,L` (R539). -/
def execBIT_4_L (s : State) : Host.Outcome State Fault Refusal :=
  runFrom 1 (Microcode.bitReg 4 .l) s

/-- `BIT 4,(HL)` (R540). -/
def execBIT_4_mHL (s : State) : Host.Outcome State Fault Refusal :=
  runFrom 1 (Microcode.bitHl 4) s

/-- `BIT 4,A` (R539). -/
def execBIT_4_A (s : State) : Host.Outcome State Fault Refusal :=
  runFrom 1 (Microcode.bitReg 4 .a) s

/-- `BIT 5,B` (R539). -/
def execBIT_5_B (s : State) : Host.Outcome State Fault Refusal :=
  runFrom 1 (Microcode.bitReg 5 .b) s

/-- `BIT 5,C` (R539). -/
def execBIT_5_C (s : State) : Host.Outcome State Fault Refusal :=
  runFrom 1 (Microcode.bitReg 5 .c) s

/-- `BIT 5,D` (R539). -/
def execBIT_5_D (s : State) : Host.Outcome State Fault Refusal :=
  runFrom 1 (Microcode.bitReg 5 .d) s

/-- `BIT 5,E` (R539). -/
def execBIT_5_E (s : State) : Host.Outcome State Fault Refusal :=
  runFrom 1 (Microcode.bitReg 5 .e) s

/-- `BIT 5,H` (R539). -/
def execBIT_5_H (s : State) : Host.Outcome State Fault Refusal :=
  runFrom 1 (Microcode.bitReg 5 .h) s

/-- `BIT 5,L` (R539). -/
def execBIT_5_L (s : State) : Host.Outcome State Fault Refusal :=
  runFrom 1 (Microcode.bitReg 5 .l) s

/-- `BIT 5,(HL)` (R540). -/
def execBIT_5_mHL (s : State) : Host.Outcome State Fault Refusal :=
  runFrom 1 (Microcode.bitHl 5) s

/-- `BIT 5,A` (R539). -/
def execBIT_5_A (s : State) : Host.Outcome State Fault Refusal :=
  runFrom 1 (Microcode.bitReg 5 .a) s

/-- `BIT 6,B` (R539). -/
def execBIT_6_B (s : State) : Host.Outcome State Fault Refusal :=
  runFrom 1 (Microcode.bitReg 6 .b) s

/-- `BIT 6,C` (R539). -/
def execBIT_6_C (s : State) : Host.Outcome State Fault Refusal :=
  runFrom 1 (Microcode.bitReg 6 .c) s

/-- `BIT 6,D` (R539). -/
def execBIT_6_D (s : State) : Host.Outcome State Fault Refusal :=
  runFrom 1 (Microcode.bitReg 6 .d) s

/-- `BIT 6,E` (R539). -/
def execBIT_6_E (s : State) : Host.Outcome State Fault Refusal :=
  runFrom 1 (Microcode.bitReg 6 .e) s

/-- `BIT 6,H` (R539). -/
def execBIT_6_H (s : State) : Host.Outcome State Fault Refusal :=
  runFrom 1 (Microcode.bitReg 6 .h) s

/-- `BIT 6,L` (R539). -/
def execBIT_6_L (s : State) : Host.Outcome State Fault Refusal :=
  runFrom 1 (Microcode.bitReg 6 .l) s

/-- `BIT 6,(HL)` (R540). -/
def execBIT_6_mHL (s : State) : Host.Outcome State Fault Refusal :=
  runFrom 1 (Microcode.bitHl 6) s

/-- `BIT 6,A` (R539). -/
def execBIT_6_A (s : State) : Host.Outcome State Fault Refusal :=
  runFrom 1 (Microcode.bitReg 6 .a) s

/-- `BIT 7,B` (R539). -/
def execBIT_7_B (s : State) : Host.Outcome State Fault Refusal :=
  runFrom 1 (Microcode.bitReg 7 .b) s

/-- `BIT 7,C` (R539). -/
def execBIT_7_C (s : State) : Host.Outcome State Fault Refusal :=
  runFrom 1 (Microcode.bitReg 7 .c) s

/-- `BIT 7,D` (R539). -/
def execBIT_7_D (s : State) : Host.Outcome State Fault Refusal :=
  runFrom 1 (Microcode.bitReg 7 .d) s

/-- `BIT 7,E` (R539). -/
def execBIT_7_E (s : State) : Host.Outcome State Fault Refusal :=
  runFrom 1 (Microcode.bitReg 7 .e) s

/-- `BIT 7,H` (R539). -/
def execBIT_7_H (s : State) : Host.Outcome State Fault Refusal :=
  runFrom 1 (Microcode.bitReg 7 .h) s

/-- `BIT 7,L` (R539). -/
def execBIT_7_L (s : State) : Host.Outcome State Fault Refusal :=
  runFrom 1 (Microcode.bitReg 7 .l) s

/-- `BIT 7,(HL)` (R540). -/
def execBIT_7_mHL (s : State) : Host.Outcome State Fault Refusal :=
  runFrom 1 (Microcode.bitHl 7) s

/-- `BIT 7,A` (R539). -/
def execBIT_7_A (s : State) : Host.Outcome State Fault Refusal :=
  runFrom 1 (Microcode.bitReg 7 .a) s

/-- `RES 0,B` (R541). -/
def execRES_0_B (s : State) : Host.Outcome State Fault Refusal :=
  runFrom 1 (Microcode.resReg 0 .b) s

/-- `RES 0,C` (R541). -/
def execRES_0_C (s : State) : Host.Outcome State Fault Refusal :=
  runFrom 1 (Microcode.resReg 0 .c) s

/-- `RES 0,D` (R541). -/
def execRES_0_D (s : State) : Host.Outcome State Fault Refusal :=
  runFrom 1 (Microcode.resReg 0 .d) s

/-- `RES 0,E` (R541). -/
def execRES_0_E (s : State) : Host.Outcome State Fault Refusal :=
  runFrom 1 (Microcode.resReg 0 .e) s

/-- `RES 0,H` (R541). -/
def execRES_0_H (s : State) : Host.Outcome State Fault Refusal :=
  runFrom 1 (Microcode.resReg 0 .h) s

/-- `RES 0,L` (R541). -/
def execRES_0_L (s : State) : Host.Outcome State Fault Refusal :=
  runFrom 1 (Microcode.resReg 0 .l) s

/-- `RES 0,(HL)` (R542). -/
def execRES_0_mHL (s : State) : Host.Outcome State Fault Refusal :=
  runFrom 1 (Microcode.resHl 0) s

/-- `RES 0,A` (R541). -/
def execRES_0_A (s : State) : Host.Outcome State Fault Refusal :=
  runFrom 1 (Microcode.resReg 0 .a) s

/-- `RES 1,B` (R541). -/
def execRES_1_B (s : State) : Host.Outcome State Fault Refusal :=
  runFrom 1 (Microcode.resReg 1 .b) s

/-- `RES 1,C` (R541). -/
def execRES_1_C (s : State) : Host.Outcome State Fault Refusal :=
  runFrom 1 (Microcode.resReg 1 .c) s

/-- `RES 1,D` (R541). -/
def execRES_1_D (s : State) : Host.Outcome State Fault Refusal :=
  runFrom 1 (Microcode.resReg 1 .d) s

/-- `RES 1,E` (R541). -/
def execRES_1_E (s : State) : Host.Outcome State Fault Refusal :=
  runFrom 1 (Microcode.resReg 1 .e) s

/-- `RES 1,H` (R541). -/
def execRES_1_H (s : State) : Host.Outcome State Fault Refusal :=
  runFrom 1 (Microcode.resReg 1 .h) s

/-- `RES 1,L` (R541). -/
def execRES_1_L (s : State) : Host.Outcome State Fault Refusal :=
  runFrom 1 (Microcode.resReg 1 .l) s

/-- `RES 1,(HL)` (R542). -/
def execRES_1_mHL (s : State) : Host.Outcome State Fault Refusal :=
  runFrom 1 (Microcode.resHl 1) s

/-- `RES 1,A` (R541). -/
def execRES_1_A (s : State) : Host.Outcome State Fault Refusal :=
  runFrom 1 (Microcode.resReg 1 .a) s

/-- `RES 2,B` (R541). -/
def execRES_2_B (s : State) : Host.Outcome State Fault Refusal :=
  runFrom 1 (Microcode.resReg 2 .b) s

/-- `RES 2,C` (R541). -/
def execRES_2_C (s : State) : Host.Outcome State Fault Refusal :=
  runFrom 1 (Microcode.resReg 2 .c) s

/-- `RES 2,D` (R541). -/
def execRES_2_D (s : State) : Host.Outcome State Fault Refusal :=
  runFrom 1 (Microcode.resReg 2 .d) s

/-- `RES 2,E` (R541). -/
def execRES_2_E (s : State) : Host.Outcome State Fault Refusal :=
  runFrom 1 (Microcode.resReg 2 .e) s

/-- `RES 2,H` (R541). -/
def execRES_2_H (s : State) : Host.Outcome State Fault Refusal :=
  runFrom 1 (Microcode.resReg 2 .h) s

/-- `RES 2,L` (R541). -/
def execRES_2_L (s : State) : Host.Outcome State Fault Refusal :=
  runFrom 1 (Microcode.resReg 2 .l) s

/-- `RES 2,(HL)` (R542). -/
def execRES_2_mHL (s : State) : Host.Outcome State Fault Refusal :=
  runFrom 1 (Microcode.resHl 2) s

/-- `RES 2,A` (R541). -/
def execRES_2_A (s : State) : Host.Outcome State Fault Refusal :=
  runFrom 1 (Microcode.resReg 2 .a) s

/-- `RES 3,B` (R541). -/
def execRES_3_B (s : State) : Host.Outcome State Fault Refusal :=
  runFrom 1 (Microcode.resReg 3 .b) s

/-- `RES 3,C` (R541). -/
def execRES_3_C (s : State) : Host.Outcome State Fault Refusal :=
  runFrom 1 (Microcode.resReg 3 .c) s

/-- `RES 3,D` (R541). -/
def execRES_3_D (s : State) : Host.Outcome State Fault Refusal :=
  runFrom 1 (Microcode.resReg 3 .d) s

/-- `RES 3,E` (R541). -/
def execRES_3_E (s : State) : Host.Outcome State Fault Refusal :=
  runFrom 1 (Microcode.resReg 3 .e) s

/-- `RES 3,H` (R541). -/
def execRES_3_H (s : State) : Host.Outcome State Fault Refusal :=
  runFrom 1 (Microcode.resReg 3 .h) s

/-- `RES 3,L` (R541). -/
def execRES_3_L (s : State) : Host.Outcome State Fault Refusal :=
  runFrom 1 (Microcode.resReg 3 .l) s

/-- `RES 3,(HL)` (R542). -/
def execRES_3_mHL (s : State) : Host.Outcome State Fault Refusal :=
  runFrom 1 (Microcode.resHl 3) s

/-- `RES 3,A` (R541). -/
def execRES_3_A (s : State) : Host.Outcome State Fault Refusal :=
  runFrom 1 (Microcode.resReg 3 .a) s

/-- `RES 4,B` (R541). -/
def execRES_4_B (s : State) : Host.Outcome State Fault Refusal :=
  runFrom 1 (Microcode.resReg 4 .b) s

/-- `RES 4,C` (R541). -/
def execRES_4_C (s : State) : Host.Outcome State Fault Refusal :=
  runFrom 1 (Microcode.resReg 4 .c) s

/-- `RES 4,D` (R541). -/
def execRES_4_D (s : State) : Host.Outcome State Fault Refusal :=
  runFrom 1 (Microcode.resReg 4 .d) s

/-- `RES 4,E` (R541). -/
def execRES_4_E (s : State) : Host.Outcome State Fault Refusal :=
  runFrom 1 (Microcode.resReg 4 .e) s

/-- `RES 4,H` (R541). -/
def execRES_4_H (s : State) : Host.Outcome State Fault Refusal :=
  runFrom 1 (Microcode.resReg 4 .h) s

/-- `RES 4,L` (R541). -/
def execRES_4_L (s : State) : Host.Outcome State Fault Refusal :=
  runFrom 1 (Microcode.resReg 4 .l) s

/-- `RES 4,(HL)` (R542). -/
def execRES_4_mHL (s : State) : Host.Outcome State Fault Refusal :=
  runFrom 1 (Microcode.resHl 4) s

/-- `RES 4,A` (R541). -/
def execRES_4_A (s : State) : Host.Outcome State Fault Refusal :=
  runFrom 1 (Microcode.resReg 4 .a) s

/-- `RES 5,B` (R541). -/
def execRES_5_B (s : State) : Host.Outcome State Fault Refusal :=
  runFrom 1 (Microcode.resReg 5 .b) s

/-- `RES 5,C` (R541). -/
def execRES_5_C (s : State) : Host.Outcome State Fault Refusal :=
  runFrom 1 (Microcode.resReg 5 .c) s

/-- `RES 5,D` (R541). -/
def execRES_5_D (s : State) : Host.Outcome State Fault Refusal :=
  runFrom 1 (Microcode.resReg 5 .d) s

/-- `RES 5,E` (R541). -/
def execRES_5_E (s : State) : Host.Outcome State Fault Refusal :=
  runFrom 1 (Microcode.resReg 5 .e) s

/-- `RES 5,H` (R541). -/
def execRES_5_H (s : State) : Host.Outcome State Fault Refusal :=
  runFrom 1 (Microcode.resReg 5 .h) s

/-- `RES 5,L` (R541). -/
def execRES_5_L (s : State) : Host.Outcome State Fault Refusal :=
  runFrom 1 (Microcode.resReg 5 .l) s

/-- `RES 5,(HL)` (R542). -/
def execRES_5_mHL (s : State) : Host.Outcome State Fault Refusal :=
  runFrom 1 (Microcode.resHl 5) s

/-- `RES 5,A` (R541). -/
def execRES_5_A (s : State) : Host.Outcome State Fault Refusal :=
  runFrom 1 (Microcode.resReg 5 .a) s

/-- `RES 6,B` (R541). -/
def execRES_6_B (s : State) : Host.Outcome State Fault Refusal :=
  runFrom 1 (Microcode.resReg 6 .b) s

/-- `RES 6,C` (R541). -/
def execRES_6_C (s : State) : Host.Outcome State Fault Refusal :=
  runFrom 1 (Microcode.resReg 6 .c) s

/-- `RES 6,D` (R541). -/
def execRES_6_D (s : State) : Host.Outcome State Fault Refusal :=
  runFrom 1 (Microcode.resReg 6 .d) s

/-- `RES 6,E` (R541). -/
def execRES_6_E (s : State) : Host.Outcome State Fault Refusal :=
  runFrom 1 (Microcode.resReg 6 .e) s

/-- `RES 6,H` (R541). -/
def execRES_6_H (s : State) : Host.Outcome State Fault Refusal :=
  runFrom 1 (Microcode.resReg 6 .h) s

/-- `RES 6,L` (R541). -/
def execRES_6_L (s : State) : Host.Outcome State Fault Refusal :=
  runFrom 1 (Microcode.resReg 6 .l) s

/-- `RES 6,(HL)` (R542). -/
def execRES_6_mHL (s : State) : Host.Outcome State Fault Refusal :=
  runFrom 1 (Microcode.resHl 6) s

/-- `RES 6,A` (R541). -/
def execRES_6_A (s : State) : Host.Outcome State Fault Refusal :=
  runFrom 1 (Microcode.resReg 6 .a) s

/-- `RES 7,B` (R541). -/
def execRES_7_B (s : State) : Host.Outcome State Fault Refusal :=
  runFrom 1 (Microcode.resReg 7 .b) s

/-- `RES 7,C` (R541). -/
def execRES_7_C (s : State) : Host.Outcome State Fault Refusal :=
  runFrom 1 (Microcode.resReg 7 .c) s

/-- `RES 7,D` (R541). -/
def execRES_7_D (s : State) : Host.Outcome State Fault Refusal :=
  runFrom 1 (Microcode.resReg 7 .d) s

/-- `RES 7,E` (R541). -/
def execRES_7_E (s : State) : Host.Outcome State Fault Refusal :=
  runFrom 1 (Microcode.resReg 7 .e) s

/-- `RES 7,H` (R541). -/
def execRES_7_H (s : State) : Host.Outcome State Fault Refusal :=
  runFrom 1 (Microcode.resReg 7 .h) s

/-- `RES 7,L` (R541). -/
def execRES_7_L (s : State) : Host.Outcome State Fault Refusal :=
  runFrom 1 (Microcode.resReg 7 .l) s

/-- `RES 7,(HL)` (R542). -/
def execRES_7_mHL (s : State) : Host.Outcome State Fault Refusal :=
  runFrom 1 (Microcode.resHl 7) s

/-- `RES 7,A` (R541). -/
def execRES_7_A (s : State) : Host.Outcome State Fault Refusal :=
  runFrom 1 (Microcode.resReg 7 .a) s

/-- `SET 0,B` (R543). -/
def execSET_0_B (s : State) : Host.Outcome State Fault Refusal :=
  runFrom 1 (Microcode.setReg 0 .b) s

/-- `SET 0,C` (R543). -/
def execSET_0_C (s : State) : Host.Outcome State Fault Refusal :=
  runFrom 1 (Microcode.setReg 0 .c) s

/-- `SET 0,D` (R543). -/
def execSET_0_D (s : State) : Host.Outcome State Fault Refusal :=
  runFrom 1 (Microcode.setReg 0 .d) s

/-- `SET 0,E` (R543). -/
def execSET_0_E (s : State) : Host.Outcome State Fault Refusal :=
  runFrom 1 (Microcode.setReg 0 .e) s

/-- `SET 0,H` (R543). -/
def execSET_0_H (s : State) : Host.Outcome State Fault Refusal :=
  runFrom 1 (Microcode.setReg 0 .h) s

/-- `SET 0,L` (R543). -/
def execSET_0_L (s : State) : Host.Outcome State Fault Refusal :=
  runFrom 1 (Microcode.setReg 0 .l) s

/-- `SET 0,(HL)` (R544). -/
def execSET_0_mHL (s : State) : Host.Outcome State Fault Refusal :=
  runFrom 1 (Microcode.setHl 0) s

/-- `SET 0,A` (R543). -/
def execSET_0_A (s : State) : Host.Outcome State Fault Refusal :=
  runFrom 1 (Microcode.setReg 0 .a) s

/-- `SET 1,B` (R543). -/
def execSET_1_B (s : State) : Host.Outcome State Fault Refusal :=
  runFrom 1 (Microcode.setReg 1 .b) s

/-- `SET 1,C` (R543). -/
def execSET_1_C (s : State) : Host.Outcome State Fault Refusal :=
  runFrom 1 (Microcode.setReg 1 .c) s

/-- `SET 1,D` (R543). -/
def execSET_1_D (s : State) : Host.Outcome State Fault Refusal :=
  runFrom 1 (Microcode.setReg 1 .d) s

/-- `SET 1,E` (R543). -/
def execSET_1_E (s : State) : Host.Outcome State Fault Refusal :=
  runFrom 1 (Microcode.setReg 1 .e) s

/-- `SET 1,H` (R543). -/
def execSET_1_H (s : State) : Host.Outcome State Fault Refusal :=
  runFrom 1 (Microcode.setReg 1 .h) s

/-- `SET 1,L` (R543). -/
def execSET_1_L (s : State) : Host.Outcome State Fault Refusal :=
  runFrom 1 (Microcode.setReg 1 .l) s

/-- `SET 1,(HL)` (R544). -/
def execSET_1_mHL (s : State) : Host.Outcome State Fault Refusal :=
  runFrom 1 (Microcode.setHl 1) s

/-- `SET 1,A` (R543). -/
def execSET_1_A (s : State) : Host.Outcome State Fault Refusal :=
  runFrom 1 (Microcode.setReg 1 .a) s

/-- `SET 2,B` (R543). -/
def execSET_2_B (s : State) : Host.Outcome State Fault Refusal :=
  runFrom 1 (Microcode.setReg 2 .b) s

/-- `SET 2,C` (R543). -/
def execSET_2_C (s : State) : Host.Outcome State Fault Refusal :=
  runFrom 1 (Microcode.setReg 2 .c) s

/-- `SET 2,D` (R543). -/
def execSET_2_D (s : State) : Host.Outcome State Fault Refusal :=
  runFrom 1 (Microcode.setReg 2 .d) s

/-- `SET 2,E` (R543). -/
def execSET_2_E (s : State) : Host.Outcome State Fault Refusal :=
  runFrom 1 (Microcode.setReg 2 .e) s

/-- `SET 2,H` (R543). -/
def execSET_2_H (s : State) : Host.Outcome State Fault Refusal :=
  runFrom 1 (Microcode.setReg 2 .h) s

/-- `SET 2,L` (R543). -/
def execSET_2_L (s : State) : Host.Outcome State Fault Refusal :=
  runFrom 1 (Microcode.setReg 2 .l) s

/-- `SET 2,(HL)` (R544). -/
def execSET_2_mHL (s : State) : Host.Outcome State Fault Refusal :=
  runFrom 1 (Microcode.setHl 2) s

/-- `SET 2,A` (R543). -/
def execSET_2_A (s : State) : Host.Outcome State Fault Refusal :=
  runFrom 1 (Microcode.setReg 2 .a) s

/-- `SET 3,B` (R543). -/
def execSET_3_B (s : State) : Host.Outcome State Fault Refusal :=
  runFrom 1 (Microcode.setReg 3 .b) s

/-- `SET 3,C` (R543). -/
def execSET_3_C (s : State) : Host.Outcome State Fault Refusal :=
  runFrom 1 (Microcode.setReg 3 .c) s

/-- `SET 3,D` (R543). -/
def execSET_3_D (s : State) : Host.Outcome State Fault Refusal :=
  runFrom 1 (Microcode.setReg 3 .d) s

/-- `SET 3,E` (R543). -/
def execSET_3_E (s : State) : Host.Outcome State Fault Refusal :=
  runFrom 1 (Microcode.setReg 3 .e) s

/-- `SET 3,H` (R543). -/
def execSET_3_H (s : State) : Host.Outcome State Fault Refusal :=
  runFrom 1 (Microcode.setReg 3 .h) s

/-- `SET 3,L` (R543). -/
def execSET_3_L (s : State) : Host.Outcome State Fault Refusal :=
  runFrom 1 (Microcode.setReg 3 .l) s

/-- `SET 3,(HL)` (R544). -/
def execSET_3_mHL (s : State) : Host.Outcome State Fault Refusal :=
  runFrom 1 (Microcode.setHl 3) s

/-- `SET 3,A` (R543). -/
def execSET_3_A (s : State) : Host.Outcome State Fault Refusal :=
  runFrom 1 (Microcode.setReg 3 .a) s

/-- `SET 4,B` (R543). -/
def execSET_4_B (s : State) : Host.Outcome State Fault Refusal :=
  runFrom 1 (Microcode.setReg 4 .b) s

/-- `SET 4,C` (R543). -/
def execSET_4_C (s : State) : Host.Outcome State Fault Refusal :=
  runFrom 1 (Microcode.setReg 4 .c) s

/-- `SET 4,D` (R543). -/
def execSET_4_D (s : State) : Host.Outcome State Fault Refusal :=
  runFrom 1 (Microcode.setReg 4 .d) s

/-- `SET 4,E` (R543). -/
def execSET_4_E (s : State) : Host.Outcome State Fault Refusal :=
  runFrom 1 (Microcode.setReg 4 .e) s

/-- `SET 4,H` (R543). -/
def execSET_4_H (s : State) : Host.Outcome State Fault Refusal :=
  runFrom 1 (Microcode.setReg 4 .h) s

/-- `SET 4,L` (R543). -/
def execSET_4_L (s : State) : Host.Outcome State Fault Refusal :=
  runFrom 1 (Microcode.setReg 4 .l) s

/-- `SET 4,(HL)` (R544). -/
def execSET_4_mHL (s : State) : Host.Outcome State Fault Refusal :=
  runFrom 1 (Microcode.setHl 4) s

/-- `SET 4,A` (R543). -/
def execSET_4_A (s : State) : Host.Outcome State Fault Refusal :=
  runFrom 1 (Microcode.setReg 4 .a) s

/-- `SET 5,B` (R543). -/
def execSET_5_B (s : State) : Host.Outcome State Fault Refusal :=
  runFrom 1 (Microcode.setReg 5 .b) s

/-- `SET 5,C` (R543). -/
def execSET_5_C (s : State) : Host.Outcome State Fault Refusal :=
  runFrom 1 (Microcode.setReg 5 .c) s

/-- `SET 5,D` (R543). -/
def execSET_5_D (s : State) : Host.Outcome State Fault Refusal :=
  runFrom 1 (Microcode.setReg 5 .d) s

/-- `SET 5,E` (R543). -/
def execSET_5_E (s : State) : Host.Outcome State Fault Refusal :=
  runFrom 1 (Microcode.setReg 5 .e) s

/-- `SET 5,H` (R543). -/
def execSET_5_H (s : State) : Host.Outcome State Fault Refusal :=
  runFrom 1 (Microcode.setReg 5 .h) s

/-- `SET 5,L` (R543). -/
def execSET_5_L (s : State) : Host.Outcome State Fault Refusal :=
  runFrom 1 (Microcode.setReg 5 .l) s

/-- `SET 5,(HL)` (R544). -/
def execSET_5_mHL (s : State) : Host.Outcome State Fault Refusal :=
  runFrom 1 (Microcode.setHl 5) s

/-- `SET 5,A` (R543). -/
def execSET_5_A (s : State) : Host.Outcome State Fault Refusal :=
  runFrom 1 (Microcode.setReg 5 .a) s

/-- `SET 6,B` (R543). -/
def execSET_6_B (s : State) : Host.Outcome State Fault Refusal :=
  runFrom 1 (Microcode.setReg 6 .b) s

/-- `SET 6,C` (R543). -/
def execSET_6_C (s : State) : Host.Outcome State Fault Refusal :=
  runFrom 1 (Microcode.setReg 6 .c) s

/-- `SET 6,D` (R543). -/
def execSET_6_D (s : State) : Host.Outcome State Fault Refusal :=
  runFrom 1 (Microcode.setReg 6 .d) s

/-- `SET 6,E` (R543). -/
def execSET_6_E (s : State) : Host.Outcome State Fault Refusal :=
  runFrom 1 (Microcode.setReg 6 .e) s

/-- `SET 6,H` (R543). -/
def execSET_6_H (s : State) : Host.Outcome State Fault Refusal :=
  runFrom 1 (Microcode.setReg 6 .h) s

/-- `SET 6,L` (R543). -/
def execSET_6_L (s : State) : Host.Outcome State Fault Refusal :=
  runFrom 1 (Microcode.setReg 6 .l) s

/-- `SET 6,(HL)` (R544). -/
def execSET_6_mHL (s : State) : Host.Outcome State Fault Refusal :=
  runFrom 1 (Microcode.setHl 6) s

/-- `SET 6,A` (R543). -/
def execSET_6_A (s : State) : Host.Outcome State Fault Refusal :=
  runFrom 1 (Microcode.setReg 6 .a) s

/-- `SET 7,B` (R543). -/
def execSET_7_B (s : State) : Host.Outcome State Fault Refusal :=
  runFrom 1 (Microcode.setReg 7 .b) s

/-- `SET 7,C` (R543). -/
def execSET_7_C (s : State) : Host.Outcome State Fault Refusal :=
  runFrom 1 (Microcode.setReg 7 .c) s

/-- `SET 7,D` (R543). -/
def execSET_7_D (s : State) : Host.Outcome State Fault Refusal :=
  runFrom 1 (Microcode.setReg 7 .d) s

/-- `SET 7,E` (R543). -/
def execSET_7_E (s : State) : Host.Outcome State Fault Refusal :=
  runFrom 1 (Microcode.setReg 7 .e) s

/-- `SET 7,H` (R543). -/
def execSET_7_H (s : State) : Host.Outcome State Fault Refusal :=
  runFrom 1 (Microcode.setReg 7 .h) s

/-- `SET 7,L` (R543). -/
def execSET_7_L (s : State) : Host.Outcome State Fault Refusal :=
  runFrom 1 (Microcode.setReg 7 .l) s

/-- `SET 7,(HL)` (R544). -/
def execSET_7_mHL (s : State) : Host.Outcome State Fault Refusal :=
  runFrom 1 (Microcode.setHl 7) s

/-- `SET 7,A` (R543). -/
def execSET_7_A (s : State) : Host.Outcome State Fault Refusal :=
  runFrom 1 (Microcode.setReg 7 .a) s

end Sys2Proof.Machine
end

