-- ==== Sys2Proof/Machine/Control.lean ====
section
/-! DEFINITION. Jumps, calls, returns and restarts (R551 to R561): one meaning per instruction. Each runs the instruction's micro-ops, which
Microcode.lean lists, from the first one that the step has not run yet: the step reads an instruction's immediate bytes and its CB
byte, and hands them over decoded (log 2). -/

namespace Sys2Proof.Machine

/-- `JR e` (R554). -/
def execJR_e (e : Byte) (s : State) : Host.Outcome State Fault Refusal :=
  runFrom 1 (Microcode.jr) (withE e s)

/-- `JR NZ,e` (R555). -/
def execJR_NZ_e (e : Byte) (s : State) : Host.Outcome State Fault Refusal :=
  runFrom 1 (Microcode.jrCond .nz) (withE e s)

/-- `JR Z,e` (R555). -/
def execJR_Z_e (e : Byte) (s : State) : Host.Outcome State Fault Refusal :=
  runFrom 1 (Microcode.jrCond .z) (withE e s)

/-- `JR NC,e` (R555). -/
def execJR_NC_e (e : Byte) (s : State) : Host.Outcome State Fault Refusal :=
  runFrom 1 (Microcode.jrCond .nc) (withE e s)

/-- `JR C,e` (R555). -/
def execJR_C_e (e : Byte) (s : State) : Host.Outcome State Fault Refusal :=
  runFrom 1 (Microcode.jrCond .c) (withE e s)

/-- `JP NZ,nn` (R552). -/
def execJP_NZ_nn (nn : Word) (s : State) : Host.Outcome State Fault Refusal :=
  runFrom 2 (Microcode.jpCond .nz) (withNn nn s)

/-- `JP nn` (R551). -/
def execJP_nn (nn : Word) (s : State) : Host.Outcome State Fault Refusal :=
  runFrom 2 (Microcode.jp) (withNn nn s)

/-- `CALL NZ,nn` (R557). -/
def execCALL_NZ_nn (nn : Word) (s : State) : Host.Outcome State Fault Refusal :=
  runFrom 2 (Microcode.callCond .nz) (withNn nn s)

/-- `JP Z,nn` (R552). -/
def execJP_Z_nn (nn : Word) (s : State) : Host.Outcome State Fault Refusal :=
  runFrom 2 (Microcode.jpCond .z) (withNn nn s)

/-- `CALL Z,nn` (R557). -/
def execCALL_Z_nn (nn : Word) (s : State) : Host.Outcome State Fault Refusal :=
  runFrom 2 (Microcode.callCond .z) (withNn nn s)

/-- `CALL nn` (R556). -/
def execCALL_nn (nn : Word) (s : State) : Host.Outcome State Fault Refusal :=
  runFrom 2 (Microcode.call) (withNn nn s)

/-- `JP NC,nn` (R552). -/
def execJP_NC_nn (nn : Word) (s : State) : Host.Outcome State Fault Refusal :=
  runFrom 2 (Microcode.jpCond .nc) (withNn nn s)

/-- `CALL NC,nn` (R557). -/
def execCALL_NC_nn (nn : Word) (s : State) : Host.Outcome State Fault Refusal :=
  runFrom 2 (Microcode.callCond .nc) (withNn nn s)

/-- `JP C,nn` (R552). -/
def execJP_C_nn (nn : Word) (s : State) : Host.Outcome State Fault Refusal :=
  runFrom 2 (Microcode.jpCond .c) (withNn nn s)

/-- `CALL C,nn` (R557). -/
def execCALL_C_nn (nn : Word) (s : State) : Host.Outcome State Fault Refusal :=
  runFrom 2 (Microcode.callCond .c) (withNn nn s)

/-- `RET NZ` (R559). -/
def execRET_NZ (s : State) : Host.Outcome State Fault Refusal :=
  runFrom 0 (Microcode.retCond .nz) s

/-- `RST 00H` (R561). -/
def execRST_00H (s : State) : Host.Outcome State Fault Refusal :=
  runFrom 0 (Microcode.rst 0) s

/-- `RET Z` (R559). -/
def execRET_Z (s : State) : Host.Outcome State Fault Refusal :=
  runFrom 0 (Microcode.retCond .z) s

/-- `RET` (R558). -/
def execRET (s : State) : Host.Outcome State Fault Refusal :=
  runFrom 0 (Microcode.ret) s

/-- `RST 08H` (R561). -/
def execRST_08H (s : State) : Host.Outcome State Fault Refusal :=
  runFrom 0 (Microcode.rst 1) s

/-- `RET NC` (R559). -/
def execRET_NC (s : State) : Host.Outcome State Fault Refusal :=
  runFrom 0 (Microcode.retCond .nc) s

/-- `RST 10H` (R561). -/
def execRST_10H (s : State) : Host.Outcome State Fault Refusal :=
  runFrom 0 (Microcode.rst 2) s

/-- `RET C` (R559). -/
def execRET_C (s : State) : Host.Outcome State Fault Refusal :=
  runFrom 0 (Microcode.retCond .c) s

/-- `RETI` (R560). -/
def execRETI (s : State) : Host.Outcome State Fault Refusal :=
  runFrom 0 (Microcode.reti) s

/-- `RST 18H` (R561). -/
def execRST_18H (s : State) : Host.Outcome State Fault Refusal :=
  runFrom 0 (Microcode.rst 3) s

/-- `RST 20H` (R561). -/
def execRST_20H (s : State) : Host.Outcome State Fault Refusal :=
  runFrom 0 (Microcode.rst 4) s

/-- `JP HL` (R553). -/
def execJP_HL (s : State) : Host.Outcome State Fault Refusal :=
  runFrom 0 (Microcode.jpHl) s

/-- `RST 28H` (R561). -/
def execRST_28H (s : State) : Host.Outcome State Fault Refusal :=
  runFrom 0 (Microcode.rst 5) s

/-- `RST 30H` (R561). -/
def execRST_30H (s : State) : Host.Outcome State Fault Refusal :=
  runFrom 0 (Microcode.rst 6) s

/-- `RST 38H` (R561). -/
def execRST_38H (s : State) : Host.Outcome State Fault Refusal :=
  runFrom 0 (Microcode.rst 7) s

end Sys2Proof.Machine
end

