-- ==== Sys2Proof/Machine/Load16.lean ====
section
/-! DEFINITION. 16-bit loads and stack transfers (R431 to R436): one meaning per instruction. Each runs the instruction's micro-ops, which
Microcode.lean lists, from the first one that the step has not run yet: the step reads an instruction's immediate bytes and its CB
byte, and hands them over decoded (log 2). -/

namespace Sys2Proof.Machine

/-- `LD BC,nn` (R431). -/
def execLD_BC_nn (nn : Word) (s : State) : Host.Outcome State Fault Refusal :=
  runFrom 2 (Microcode.ldPair .bc) (withNn nn s)

/-- `LD (nn),SP` (R432). -/
def execLD_mnn_SP (nn : Word) (s : State) : Host.Outcome State Fault Refusal :=
  runFrom 2 (Microcode.ldNnSp) (withNn nn s)

/-- `LD DE,nn` (R431). -/
def execLD_DE_nn (nn : Word) (s : State) : Host.Outcome State Fault Refusal :=
  runFrom 2 (Microcode.ldPair .de) (withNn nn s)

/-- `LD HL,nn` (R431). -/
def execLD_HL_nn (nn : Word) (s : State) : Host.Outcome State Fault Refusal :=
  runFrom 2 (Microcode.ldPair .hl) (withNn nn s)

/-- `LD SP,nn` (R431). -/
def execLD_SP_nn (nn : Word) (s : State) : Host.Outcome State Fault Refusal :=
  runFrom 2 (Microcode.ldPair .sp) (withNn nn s)

/-- `LD HL,SP+e` (R436). -/
def execLD_HL_SP_e (e : Byte) (s : State) : Host.Outcome State Fault Refusal :=
  runFrom 1 (Microcode.ldHlSpE) (withE e s)

/-- `POP BC` (R435). -/
def execPOP_BC (s : State) : Host.Outcome State Fault Refusal :=
  runFrom 0 (Microcode.pop .bc) s

/-- `PUSH BC` (R434). -/
def execPUSH_BC (s : State) : Host.Outcome State Fault Refusal :=
  runFrom 0 (Microcode.push .bc) s

/-- `POP DE` (R435). -/
def execPOP_DE (s : State) : Host.Outcome State Fault Refusal :=
  runFrom 0 (Microcode.pop .de) s

/-- `PUSH DE` (R434). -/
def execPUSH_DE (s : State) : Host.Outcome State Fault Refusal :=
  runFrom 0 (Microcode.push .de) s

/-- `POP HL` (R435). -/
def execPOP_HL (s : State) : Host.Outcome State Fault Refusal :=
  runFrom 0 (Microcode.pop .hl) s

/-- `PUSH HL` (R434). -/
def execPUSH_HL (s : State) : Host.Outcome State Fault Refusal :=
  runFrom 0 (Microcode.push .hl) s

/-- `POP AF` (R435). -/
def execPOP_AF (s : State) : Host.Outcome State Fault Refusal :=
  runFrom 0 (Microcode.pop .af) s

/-- `PUSH AF` (R434). -/
def execPUSH_AF (s : State) : Host.Outcome State Fault Refusal :=
  runFrom 0 (Microcode.push .af) s

/-- `LD SP,HL` (R433). -/
def execLD_SP_HL (s : State) : Host.Outcome State Fault Refusal :=
  runFrom 0 (Microcode.ldSpHl) s

end Sys2Proof.Machine
end

