-- ==== Sys2Proof/Machine/Load8.lean ====
section
/-! DEFINITION. 8-bit loads (R401 to R419): one meaning per instruction. Each runs the instruction's micro-ops, which
Microcode.lean lists, from the first one that the step has not run yet: the step reads an instruction's immediate bytes and its CB
byte, and hands them over decoded (log 2). -/

namespace Sys2Proof.Machine

/-- `LD B,n` (R402). -/
def execLD_B_n (n : Byte) (s : State) : Host.Outcome State Fault Refusal :=
  runFrom 1 (Microcode.ldImm .b) (withTmp n s)

/-- `LD C,n` (R402). -/
def execLD_C_n (n : Byte) (s : State) : Host.Outcome State Fault Refusal :=
  runFrom 1 (Microcode.ldImm .c) (withTmp n s)

/-- `LD D,n` (R402). -/
def execLD_D_n (n : Byte) (s : State) : Host.Outcome State Fault Refusal :=
  runFrom 1 (Microcode.ldImm .d) (withTmp n s)

/-- `LD E,n` (R402). -/
def execLD_E_n (n : Byte) (s : State) : Host.Outcome State Fault Refusal :=
  runFrom 1 (Microcode.ldImm .e) (withTmp n s)

/-- `LD H,n` (R402). -/
def execLD_H_n (n : Byte) (s : State) : Host.Outcome State Fault Refusal :=
  runFrom 1 (Microcode.ldImm .h) (withTmp n s)

/-- `LD L,n` (R402). -/
def execLD_L_n (n : Byte) (s : State) : Host.Outcome State Fault Refusal :=
  runFrom 1 (Microcode.ldImm .l) (withTmp n s)

/-- `LD (HL),n` (R405). -/
def execLD_mHL_n (n : Byte) (s : State) : Host.Outcome State Fault Refusal :=
  runFrom 1 (Microcode.ldHlImm) (withTmp n s)

/-- `LD A,n` (R402). -/
def execLD_A_n (n : Byte) (s : State) : Host.Outcome State Fault Refusal :=
  runFrom 1 (Microcode.ldImm .a) (withTmp n s)

/-- `LDH (n),A` (R413). -/
def execLDH_mn_A (n : Byte) (s : State) : Host.Outcome State Fault Refusal :=
  runFrom 1 (Microcode.ldhNFromA) (withLsb n s)

/-- `LD (nn),A` (R411). -/
def execLD_mnn_A (nn : Word) (s : State) : Host.Outcome State Fault Refusal :=
  runFrom 2 (Microcode.ldNnFromA) (withNn nn s)

/-- `LDH A,(n)` (R412). -/
def execLDH_A_mn (n : Byte) (s : State) : Host.Outcome State Fault Refusal :=
  runFrom 1 (Microcode.ldhAFromN) (withLsb n s)

/-- `LD A,(nn)` (R410). -/
def execLD_A_mnn (nn : Word) (s : State) : Host.Outcome State Fault Refusal :=
  runFrom 2 (Microcode.ldAFromNn) (withNn nn s)

/-- `LD (BC),A` (R408). -/
def execLD_mBC_A (s : State) : Host.Outcome State Fault Refusal :=
  runFrom 0 (Microcode.ldATo .bc) s

/-- `LD A,(BC)` (R406). -/
def execLD_A_mBC (s : State) : Host.Outcome State Fault Refusal :=
  runFrom 0 (Microcode.ldAFrom .bc) s

/-- `LD (DE),A` (R409). -/
def execLD_mDE_A (s : State) : Host.Outcome State Fault Refusal :=
  runFrom 0 (Microcode.ldATo .de) s

/-- `LD A,(DE)` (R407). -/
def execLD_A_mDE (s : State) : Host.Outcome State Fault Refusal :=
  runFrom 0 (Microcode.ldAFrom .de) s

/-- `LD (HL+),A` (R418). -/
def execLD_mHLinc_A (s : State) : Host.Outcome State Fault Refusal :=
  runFrom 0 (Microcode.ldHlIncA) s

/-- `LD A,(HL+)` (R416). -/
def execLD_A_mHLinc (s : State) : Host.Outcome State Fault Refusal :=
  runFrom 0 (Microcode.ldAHlInc) s

/-- `LD (HL-),A` (R419). -/
def execLD_mHLdec_A (s : State) : Host.Outcome State Fault Refusal :=
  runFrom 0 (Microcode.ldHlDecA) s

/-- `LD A,(HL-)` (R417). -/
def execLD_A_mHLdec (s : State) : Host.Outcome State Fault Refusal :=
  runFrom 0 (Microcode.ldAHlDec) s

/-- `LD B,B` (R401). -/
def execLD_B_B (s : State) : Host.Outcome State Fault Refusal :=
  runFrom 0 (Microcode.ldReg .b .b) s

/-- `LD B,C` (R401). -/
def execLD_B_C (s : State) : Host.Outcome State Fault Refusal :=
  runFrom 0 (Microcode.ldReg .b .c) s

/-- `LD B,D` (R401). -/
def execLD_B_D (s : State) : Host.Outcome State Fault Refusal :=
  runFrom 0 (Microcode.ldReg .b .d) s

/-- `LD B,E` (R401). -/
def execLD_B_E (s : State) : Host.Outcome State Fault Refusal :=
  runFrom 0 (Microcode.ldReg .b .e) s

/-- `LD B,H` (R401). -/
def execLD_B_H (s : State) : Host.Outcome State Fault Refusal :=
  runFrom 0 (Microcode.ldReg .b .h) s

/-- `LD B,L` (R401). -/
def execLD_B_L (s : State) : Host.Outcome State Fault Refusal :=
  runFrom 0 (Microcode.ldReg .b .l) s

/-- `LD B,(HL)` (R403). -/
def execLD_B_mHL (s : State) : Host.Outcome State Fault Refusal :=
  runFrom 0 (Microcode.ldFromHl .b) s

/-- `LD B,A` (R401). -/
def execLD_B_A (s : State) : Host.Outcome State Fault Refusal :=
  runFrom 0 (Microcode.ldReg .b .a) s

/-- `LD C,B` (R401). -/
def execLD_C_B (s : State) : Host.Outcome State Fault Refusal :=
  runFrom 0 (Microcode.ldReg .c .b) s

/-- `LD C,C` (R401). -/
def execLD_C_C (s : State) : Host.Outcome State Fault Refusal :=
  runFrom 0 (Microcode.ldReg .c .c) s

/-- `LD C,D` (R401). -/
def execLD_C_D (s : State) : Host.Outcome State Fault Refusal :=
  runFrom 0 (Microcode.ldReg .c .d) s

/-- `LD C,E` (R401). -/
def execLD_C_E (s : State) : Host.Outcome State Fault Refusal :=
  runFrom 0 (Microcode.ldReg .c .e) s

/-- `LD C,H` (R401). -/
def execLD_C_H (s : State) : Host.Outcome State Fault Refusal :=
  runFrom 0 (Microcode.ldReg .c .h) s

/-- `LD C,L` (R401). -/
def execLD_C_L (s : State) : Host.Outcome State Fault Refusal :=
  runFrom 0 (Microcode.ldReg .c .l) s

/-- `LD C,(HL)` (R403). -/
def execLD_C_mHL (s : State) : Host.Outcome State Fault Refusal :=
  runFrom 0 (Microcode.ldFromHl .c) s

/-- `LD C,A` (R401). -/
def execLD_C_A (s : State) : Host.Outcome State Fault Refusal :=
  runFrom 0 (Microcode.ldReg .c .a) s

/-- `LD D,B` (R401). -/
def execLD_D_B (s : State) : Host.Outcome State Fault Refusal :=
  runFrom 0 (Microcode.ldReg .d .b) s

/-- `LD D,C` (R401). -/
def execLD_D_C (s : State) : Host.Outcome State Fault Refusal :=
  runFrom 0 (Microcode.ldReg .d .c) s

/-- `LD D,D` (R401). -/
def execLD_D_D (s : State) : Host.Outcome State Fault Refusal :=
  runFrom 0 (Microcode.ldReg .d .d) s

/-- `LD D,E` (R401). -/
def execLD_D_E (s : State) : Host.Outcome State Fault Refusal :=
  runFrom 0 (Microcode.ldReg .d .e) s

/-- `LD D,H` (R401). -/
def execLD_D_H (s : State) : Host.Outcome State Fault Refusal :=
  runFrom 0 (Microcode.ldReg .d .h) s

/-- `LD D,L` (R401). -/
def execLD_D_L (s : State) : Host.Outcome State Fault Refusal :=
  runFrom 0 (Microcode.ldReg .d .l) s

/-- `LD D,(HL)` (R403). -/
def execLD_D_mHL (s : State) : Host.Outcome State Fault Refusal :=
  runFrom 0 (Microcode.ldFromHl .d) s

/-- `LD D,A` (R401). -/
def execLD_D_A (s : State) : Host.Outcome State Fault Refusal :=
  runFrom 0 (Microcode.ldReg .d .a) s

/-- `LD E,B` (R401). -/
def execLD_E_B (s : State) : Host.Outcome State Fault Refusal :=
  runFrom 0 (Microcode.ldReg .e .b) s

/-- `LD E,C` (R401). -/
def execLD_E_C (s : State) : Host.Outcome State Fault Refusal :=
  runFrom 0 (Microcode.ldReg .e .c) s

/-- `LD E,D` (R401). -/
def execLD_E_D (s : State) : Host.Outcome State Fault Refusal :=
  runFrom 0 (Microcode.ldReg .e .d) s

/-- `LD E,E` (R401). -/
def execLD_E_E (s : State) : Host.Outcome State Fault Refusal :=
  runFrom 0 (Microcode.ldReg .e .e) s

/-- `LD E,H` (R401). -/
def execLD_E_H (s : State) : Host.Outcome State Fault Refusal :=
  runFrom 0 (Microcode.ldReg .e .h) s

/-- `LD E,L` (R401). -/
def execLD_E_L (s : State) : Host.Outcome State Fault Refusal :=
  runFrom 0 (Microcode.ldReg .e .l) s

/-- `LD E,(HL)` (R403). -/
def execLD_E_mHL (s : State) : Host.Outcome State Fault Refusal :=
  runFrom 0 (Microcode.ldFromHl .e) s

/-- `LD E,A` (R401). -/
def execLD_E_A (s : State) : Host.Outcome State Fault Refusal :=
  runFrom 0 (Microcode.ldReg .e .a) s

/-- `LD H,B` (R401). -/
def execLD_H_B (s : State) : Host.Outcome State Fault Refusal :=
  runFrom 0 (Microcode.ldReg .h .b) s

/-- `LD H,C` (R401). -/
def execLD_H_C (s : State) : Host.Outcome State Fault Refusal :=
  runFrom 0 (Microcode.ldReg .h .c) s

/-- `LD H,D` (R401). -/
def execLD_H_D (s : State) : Host.Outcome State Fault Refusal :=
  runFrom 0 (Microcode.ldReg .h .d) s

/-- `LD H,E` (R401). -/
def execLD_H_E (s : State) : Host.Outcome State Fault Refusal :=
  runFrom 0 (Microcode.ldReg .h .e) s

/-- `LD H,H` (R401). -/
def execLD_H_H (s : State) : Host.Outcome State Fault Refusal :=
  runFrom 0 (Microcode.ldReg .h .h) s

/-- `LD H,L` (R401). -/
def execLD_H_L (s : State) : Host.Outcome State Fault Refusal :=
  runFrom 0 (Microcode.ldReg .h .l) s

/-- `LD H,(HL)` (R403). -/
def execLD_H_mHL (s : State) : Host.Outcome State Fault Refusal :=
  runFrom 0 (Microcode.ldFromHl .h) s

/-- `LD H,A` (R401). -/
def execLD_H_A (s : State) : Host.Outcome State Fault Refusal :=
  runFrom 0 (Microcode.ldReg .h .a) s

/-- `LD L,B` (R401). -/
def execLD_L_B (s : State) : Host.Outcome State Fault Refusal :=
  runFrom 0 (Microcode.ldReg .l .b) s

/-- `LD L,C` (R401). -/
def execLD_L_C (s : State) : Host.Outcome State Fault Refusal :=
  runFrom 0 (Microcode.ldReg .l .c) s

/-- `LD L,D` (R401). -/
def execLD_L_D (s : State) : Host.Outcome State Fault Refusal :=
  runFrom 0 (Microcode.ldReg .l .d) s

/-- `LD L,E` (R401). -/
def execLD_L_E (s : State) : Host.Outcome State Fault Refusal :=
  runFrom 0 (Microcode.ldReg .l .e) s

/-- `LD L,H` (R401). -/
def execLD_L_H (s : State) : Host.Outcome State Fault Refusal :=
  runFrom 0 (Microcode.ldReg .l .h) s

/-- `LD L,L` (R401). -/
def execLD_L_L (s : State) : Host.Outcome State Fault Refusal :=
  runFrom 0 (Microcode.ldReg .l .l) s

/-- `LD L,(HL)` (R403). -/
def execLD_L_mHL (s : State) : Host.Outcome State Fault Refusal :=
  runFrom 0 (Microcode.ldFromHl .l) s

/-- `LD L,A` (R401). -/
def execLD_L_A (s : State) : Host.Outcome State Fault Refusal :=
  runFrom 0 (Microcode.ldReg .l .a) s

/-- `LD (HL),B` (R404). -/
def execLD_mHL_B (s : State) : Host.Outcome State Fault Refusal :=
  runFrom 0 (Microcode.ldToHl .b) s

/-- `LD (HL),C` (R404). -/
def execLD_mHL_C (s : State) : Host.Outcome State Fault Refusal :=
  runFrom 0 (Microcode.ldToHl .c) s

/-- `LD (HL),D` (R404). -/
def execLD_mHL_D (s : State) : Host.Outcome State Fault Refusal :=
  runFrom 0 (Microcode.ldToHl .d) s

/-- `LD (HL),E` (R404). -/
def execLD_mHL_E (s : State) : Host.Outcome State Fault Refusal :=
  runFrom 0 (Microcode.ldToHl .e) s

/-- `LD (HL),H` (R404). -/
def execLD_mHL_H (s : State) : Host.Outcome State Fault Refusal :=
  runFrom 0 (Microcode.ldToHl .h) s

/-- `LD (HL),L` (R404). -/
def execLD_mHL_L (s : State) : Host.Outcome State Fault Refusal :=
  runFrom 0 (Microcode.ldToHl .l) s

/-- `LD (HL),A` (R404). -/
def execLD_mHL_A (s : State) : Host.Outcome State Fault Refusal :=
  runFrom 0 (Microcode.ldToHl .a) s

/-- `LD A,B` (R401). -/
def execLD_A_B (s : State) : Host.Outcome State Fault Refusal :=
  runFrom 0 (Microcode.ldReg .a .b) s

/-- `LD A,C` (R401). -/
def execLD_A_C (s : State) : Host.Outcome State Fault Refusal :=
  runFrom 0 (Microcode.ldReg .a .c) s

/-- `LD A,D` (R401). -/
def execLD_A_D (s : State) : Host.Outcome State Fault Refusal :=
  runFrom 0 (Microcode.ldReg .a .d) s

/-- `LD A,E` (R401). -/
def execLD_A_E (s : State) : Host.Outcome State Fault Refusal :=
  runFrom 0 (Microcode.ldReg .a .e) s

/-- `LD A,H` (R401). -/
def execLD_A_H (s : State) : Host.Outcome State Fault Refusal :=
  runFrom 0 (Microcode.ldReg .a .h) s

/-- `LD A,L` (R401). -/
def execLD_A_L (s : State) : Host.Outcome State Fault Refusal :=
  runFrom 0 (Microcode.ldReg .a .l) s

/-- `LD A,(HL)` (R403). -/
def execLD_A_mHL (s : State) : Host.Outcome State Fault Refusal :=
  runFrom 0 (Microcode.ldFromHl .a) s

/-- `LD A,A` (R401). -/
def execLD_A_A (s : State) : Host.Outcome State Fault Refusal :=
  runFrom 0 (Microcode.ldReg .a .a) s

/-- `LD (C),A` (R415). -/
def execLD_mC_A (s : State) : Host.Outcome State Fault Refusal :=
  runFrom 0 (Microcode.ldATo .highC) s

/-- `LD A,(C)` (R414). -/
def execLD_A_mC (s : State) : Host.Outcome State Fault Refusal :=
  runFrom 0 (Microcode.ldAFrom .highC) s

end Sys2Proof.Machine
end

