-- ==== Sys2Proof/Machine/Rotate.lean ====
section
/-! DEFINITION. Rotates and shifts (R511 to R538): one meaning per instruction. Each runs the instruction's micro-ops, which
Microcode.lean lists, from the first one that the step has not run yet: the step reads an instruction's immediate bytes and its CB
byte, and hands them over decoded (log 2). -/

namespace Sys2Proof.Machine

/-- `RLCA` (R511). -/
def execRLCA (s : State) : Host.Outcome State Fault Refusal :=
  runFrom 0 (Microcode.rlca) s

/-- `RRCA` (R512). -/
def execRRCA (s : State) : Host.Outcome State Fault Refusal :=
  runFrom 0 (Microcode.rrca) s

/-- `RLA` (R513). -/
def execRLA (s : State) : Host.Outcome State Fault Refusal :=
  runFrom 0 (Microcode.rla) s

/-- `RRA` (R514). -/
def execRRA (s : State) : Host.Outcome State Fault Refusal :=
  runFrom 0 (Microcode.rra) s

/-- `RLC B` (R523). -/
def execRLC_B (s : State) : Host.Outcome State Fault Refusal :=
  runFrom 1 (Microcode.rotReg .rlc .b) s

/-- `RLC C` (R523). -/
def execRLC_C (s : State) : Host.Outcome State Fault Refusal :=
  runFrom 1 (Microcode.rotReg .rlc .c) s

/-- `RLC D` (R523). -/
def execRLC_D (s : State) : Host.Outcome State Fault Refusal :=
  runFrom 1 (Microcode.rotReg .rlc .d) s

/-- `RLC E` (R523). -/
def execRLC_E (s : State) : Host.Outcome State Fault Refusal :=
  runFrom 1 (Microcode.rotReg .rlc .e) s

/-- `RLC H` (R523). -/
def execRLC_H (s : State) : Host.Outcome State Fault Refusal :=
  runFrom 1 (Microcode.rotReg .rlc .h) s

/-- `RLC L` (R523). -/
def execRLC_L (s : State) : Host.Outcome State Fault Refusal :=
  runFrom 1 (Microcode.rotReg .rlc .l) s

/-- `RLC (HL)` (R531). -/
def execRLC_mHL (s : State) : Host.Outcome State Fault Refusal :=
  runFrom 1 (Microcode.rotHl .rlc) s

/-- `RLC A` (R523). -/
def execRLC_A (s : State) : Host.Outcome State Fault Refusal :=
  runFrom 1 (Microcode.rotReg .rlc .a) s

/-- `RRC B` (R524). -/
def execRRC_B (s : State) : Host.Outcome State Fault Refusal :=
  runFrom 1 (Microcode.rotReg .rrc .b) s

/-- `RRC C` (R524). -/
def execRRC_C (s : State) : Host.Outcome State Fault Refusal :=
  runFrom 1 (Microcode.rotReg .rrc .c) s

/-- `RRC D` (R524). -/
def execRRC_D (s : State) : Host.Outcome State Fault Refusal :=
  runFrom 1 (Microcode.rotReg .rrc .d) s

/-- `RRC E` (R524). -/
def execRRC_E (s : State) : Host.Outcome State Fault Refusal :=
  runFrom 1 (Microcode.rotReg .rrc .e) s

/-- `RRC H` (R524). -/
def execRRC_H (s : State) : Host.Outcome State Fault Refusal :=
  runFrom 1 (Microcode.rotReg .rrc .h) s

/-- `RRC L` (R524). -/
def execRRC_L (s : State) : Host.Outcome State Fault Refusal :=
  runFrom 1 (Microcode.rotReg .rrc .l) s

/-- `RRC (HL)` (R532). -/
def execRRC_mHL (s : State) : Host.Outcome State Fault Refusal :=
  runFrom 1 (Microcode.rotHl .rrc) s

/-- `RRC A` (R524). -/
def execRRC_A (s : State) : Host.Outcome State Fault Refusal :=
  runFrom 1 (Microcode.rotReg .rrc .a) s

/-- `RL B` (R525). -/
def execRL_B (s : State) : Host.Outcome State Fault Refusal :=
  runFrom 1 (Microcode.rotReg .rl .b) s

/-- `RL C` (R525). -/
def execRL_C (s : State) : Host.Outcome State Fault Refusal :=
  runFrom 1 (Microcode.rotReg .rl .c) s

/-- `RL D` (R525). -/
def execRL_D (s : State) : Host.Outcome State Fault Refusal :=
  runFrom 1 (Microcode.rotReg .rl .d) s

/-- `RL E` (R525). -/
def execRL_E (s : State) : Host.Outcome State Fault Refusal :=
  runFrom 1 (Microcode.rotReg .rl .e) s

/-- `RL H` (R525). -/
def execRL_H (s : State) : Host.Outcome State Fault Refusal :=
  runFrom 1 (Microcode.rotReg .rl .h) s

/-- `RL L` (R525). -/
def execRL_L (s : State) : Host.Outcome State Fault Refusal :=
  runFrom 1 (Microcode.rotReg .rl .l) s

/-- `RL (HL)` (R533). -/
def execRL_mHL (s : State) : Host.Outcome State Fault Refusal :=
  runFrom 1 (Microcode.rotHl .rl) s

/-- `RL A` (R525). -/
def execRL_A (s : State) : Host.Outcome State Fault Refusal :=
  runFrom 1 (Microcode.rotReg .rl .a) s

/-- `RR B` (R526). -/
def execRR_B (s : State) : Host.Outcome State Fault Refusal :=
  runFrom 1 (Microcode.rotReg .rr .b) s

/-- `RR C` (R526). -/
def execRR_C (s : State) : Host.Outcome State Fault Refusal :=
  runFrom 1 (Microcode.rotReg .rr .c) s

/-- `RR D` (R526). -/
def execRR_D (s : State) : Host.Outcome State Fault Refusal :=
  runFrom 1 (Microcode.rotReg .rr .d) s

/-- `RR E` (R526). -/
def execRR_E (s : State) : Host.Outcome State Fault Refusal :=
  runFrom 1 (Microcode.rotReg .rr .e) s

/-- `RR H` (R526). -/
def execRR_H (s : State) : Host.Outcome State Fault Refusal :=
  runFrom 1 (Microcode.rotReg .rr .h) s

/-- `RR L` (R526). -/
def execRR_L (s : State) : Host.Outcome State Fault Refusal :=
  runFrom 1 (Microcode.rotReg .rr .l) s

/-- `RR (HL)` (R534). -/
def execRR_mHL (s : State) : Host.Outcome State Fault Refusal :=
  runFrom 1 (Microcode.rotHl .rr) s

/-- `RR A` (R526). -/
def execRR_A (s : State) : Host.Outcome State Fault Refusal :=
  runFrom 1 (Microcode.rotReg .rr .a) s

/-- `SLA B` (R527). -/
def execSLA_B (s : State) : Host.Outcome State Fault Refusal :=
  runFrom 1 (Microcode.rotReg .sla .b) s

/-- `SLA C` (R527). -/
def execSLA_C (s : State) : Host.Outcome State Fault Refusal :=
  runFrom 1 (Microcode.rotReg .sla .c) s

/-- `SLA D` (R527). -/
def execSLA_D (s : State) : Host.Outcome State Fault Refusal :=
  runFrom 1 (Microcode.rotReg .sla .d) s

/-- `SLA E` (R527). -/
def execSLA_E (s : State) : Host.Outcome State Fault Refusal :=
  runFrom 1 (Microcode.rotReg .sla .e) s

/-- `SLA H` (R527). -/
def execSLA_H (s : State) : Host.Outcome State Fault Refusal :=
  runFrom 1 (Microcode.rotReg .sla .h) s

/-- `SLA L` (R527). -/
def execSLA_L (s : State) : Host.Outcome State Fault Refusal :=
  runFrom 1 (Microcode.rotReg .sla .l) s

/-- `SLA (HL)` (R535). -/
def execSLA_mHL (s : State) : Host.Outcome State Fault Refusal :=
  runFrom 1 (Microcode.rotHl .sla) s

/-- `SLA A` (R527). -/
def execSLA_A (s : State) : Host.Outcome State Fault Refusal :=
  runFrom 1 (Microcode.rotReg .sla .a) s

/-- `SRA B` (R528). -/
def execSRA_B (s : State) : Host.Outcome State Fault Refusal :=
  runFrom 1 (Microcode.rotReg .sra .b) s

/-- `SRA C` (R528). -/
def execSRA_C (s : State) : Host.Outcome State Fault Refusal :=
  runFrom 1 (Microcode.rotReg .sra .c) s

/-- `SRA D` (R528). -/
def execSRA_D (s : State) : Host.Outcome State Fault Refusal :=
  runFrom 1 (Microcode.rotReg .sra .d) s

/-- `SRA E` (R528). -/
def execSRA_E (s : State) : Host.Outcome State Fault Refusal :=
  runFrom 1 (Microcode.rotReg .sra .e) s

/-- `SRA H` (R528). -/
def execSRA_H (s : State) : Host.Outcome State Fault Refusal :=
  runFrom 1 (Microcode.rotReg .sra .h) s

/-- `SRA L` (R528). -/
def execSRA_L (s : State) : Host.Outcome State Fault Refusal :=
  runFrom 1 (Microcode.rotReg .sra .l) s

/-- `SRA (HL)` (R536). -/
def execSRA_mHL (s : State) : Host.Outcome State Fault Refusal :=
  runFrom 1 (Microcode.rotHl .sra) s

/-- `SRA A` (R528). -/
def execSRA_A (s : State) : Host.Outcome State Fault Refusal :=
  runFrom 1 (Microcode.rotReg .sra .a) s

/-- `SWAP B` (R529). -/
def execSWAP_B (s : State) : Host.Outcome State Fault Refusal :=
  runFrom 1 (Microcode.rotReg .swap .b) s

/-- `SWAP C` (R529). -/
def execSWAP_C (s : State) : Host.Outcome State Fault Refusal :=
  runFrom 1 (Microcode.rotReg .swap .c) s

/-- `SWAP D` (R529). -/
def execSWAP_D (s : State) : Host.Outcome State Fault Refusal :=
  runFrom 1 (Microcode.rotReg .swap .d) s

/-- `SWAP E` (R529). -/
def execSWAP_E (s : State) : Host.Outcome State Fault Refusal :=
  runFrom 1 (Microcode.rotReg .swap .e) s

/-- `SWAP H` (R529). -/
def execSWAP_H (s : State) : Host.Outcome State Fault Refusal :=
  runFrom 1 (Microcode.rotReg .swap .h) s

/-- `SWAP L` (R529). -/
def execSWAP_L (s : State) : Host.Outcome State Fault Refusal :=
  runFrom 1 (Microcode.rotReg .swap .l) s

/-- `SWAP (HL)` (R537). -/
def execSWAP_mHL (s : State) : Host.Outcome State Fault Refusal :=
  runFrom 1 (Microcode.rotHl .swap) s

/-- `SWAP A` (R529). -/
def execSWAP_A (s : State) : Host.Outcome State Fault Refusal :=
  runFrom 1 (Microcode.rotReg .swap .a) s

/-- `SRL B` (R530). -/
def execSRL_B (s : State) : Host.Outcome State Fault Refusal :=
  runFrom 1 (Microcode.rotReg .srl .b) s

/-- `SRL C` (R530). -/
def execSRL_C (s : State) : Host.Outcome State Fault Refusal :=
  runFrom 1 (Microcode.rotReg .srl .c) s

/-- `SRL D` (R530). -/
def execSRL_D (s : State) : Host.Outcome State Fault Refusal :=
  runFrom 1 (Microcode.rotReg .srl .d) s

/-- `SRL E` (R530). -/
def execSRL_E (s : State) : Host.Outcome State Fault Refusal :=
  runFrom 1 (Microcode.rotReg .srl .e) s

/-- `SRL H` (R530). -/
def execSRL_H (s : State) : Host.Outcome State Fault Refusal :=
  runFrom 1 (Microcode.rotReg .srl .h) s

/-- `SRL L` (R530). -/
def execSRL_L (s : State) : Host.Outcome State Fault Refusal :=
  runFrom 1 (Microcode.rotReg .srl .l) s

/-- `SRL (HL)` (R538). -/
def execSRL_mHL (s : State) : Host.Outcome State Fault Refusal :=
  runFrom 1 (Microcode.rotHl .srl) s

/-- `SRL A` (R530). -/
def execSRL_A (s : State) : Host.Outcome State Fault Refusal :=
  runFrom 1 (Microcode.rotReg .srl .a) s

end Sys2Proof.Machine
end

