-- ==== Sys2Proof/Machine/System.lean ====
section
/-! DEFINITION. NOP, HALT, STOP, DI and EI (R571 to R575), the prefix byte (R367) and the illegal opcodes (R328, R370): one meaning per instruction. Each runs the instruction's micro-ops, which
Microcode.lean lists, from the first one that the step has not run yet: the step reads an instruction's immediate bytes and its CB
byte, and hands them over decoded (log 2). -/

namespace Sys2Proof.Machine

/-- `NOP` (R571). -/
def execNOP (s : State) : Host.Outcome State Fault Refusal :=
  runFrom 0 (Microcode.nop) s

/-- `STOP` (R573). -/
def execSTOP (s : State) : Host.Outcome State Fault Refusal :=
  runFrom 0 (Microcode.stop) s

/-- `HALT` (R572). -/
def execHALT (s : State) : Host.Outcome State Fault Refusal :=
  runFrom 0 (Microcode.halt) s

/-- The prefix byte alone (R367): its micro-op reads the second byte and replaces the queue, and the rest of that queue follows
(log 15). -/
def execPREFIX_CB (s : State) : Host.Outcome State Fault Refusal :=
  runPrefix s

/-- Opcode 0xD3 has no instruction: the fault of R370 (R370). -/
def execillegal_0xD3 (s : State) : Host.Outcome State Fault Refusal :=
  illegal 0xD3 s

/-- Opcode 0xDB has no instruction: the fault of R370 (R370). -/
def execillegal_0xDB (s : State) : Host.Outcome State Fault Refusal :=
  illegal 0xDB s

/-- Opcode 0xDD has no instruction: the fault of R370 (R370). -/
def execillegal_0xDD (s : State) : Host.Outcome State Fault Refusal :=
  illegal 0xDD s

/-- Opcode 0xE3 has no instruction: the fault of R370 (R370). -/
def execillegal_0xE3 (s : State) : Host.Outcome State Fault Refusal :=
  illegal 0xE3 s

/-- Opcode 0xE4 has no instruction: the fault of R370 (R370). -/
def execillegal_0xE4 (s : State) : Host.Outcome State Fault Refusal :=
  illegal 0xE4 s

/-- Opcode 0xEB has no instruction: the fault of R370 (R370). -/
def execillegal_0xEB (s : State) : Host.Outcome State Fault Refusal :=
  illegal 0xEB s

/-- Opcode 0xEC has no instruction: the fault of R370 (R370). -/
def execillegal_0xEC (s : State) : Host.Outcome State Fault Refusal :=
  illegal 0xEC s

/-- Opcode 0xED has no instruction: the fault of R370 (R370). -/
def execillegal_0xED (s : State) : Host.Outcome State Fault Refusal :=
  illegal 0xED s

/-- `DI` (R574). -/
def execDI (s : State) : Host.Outcome State Fault Refusal :=
  runFrom 0 (Microcode.di) s

/-- Opcode 0xF4 has no instruction: the fault of R370 (R370). -/
def execillegal_0xF4 (s : State) : Host.Outcome State Fault Refusal :=
  illegal 0xF4 s

/-- `EI` (R575). -/
def execEI (s : State) : Host.Outcome State Fault Refusal :=
  runFrom 0 (Microcode.ei) s

/-- Opcode 0xFC has no instruction: the fault of R370 (R370). -/
def execillegal_0xFC (s : State) : Host.Outcome State Fault Refusal :=
  illegal 0xFC s

/-- Opcode 0xFD has no instruction: the fault of R370 (R370). -/
def execillegal_0xFD (s : State) : Host.Outcome State Fault Refusal :=
  illegal 0xFD s

end Sys2Proof.Machine
end

