-- ==== Sys2Proof/Machine/Dispatch.lean ====
section
/-! DEFINITION. The dispatch: one arm per constructor of Instr. -/

namespace Sys2Proof.Machine

/-- The meaning of an instruction on the state in which all its bytes have been read (log 2). -/
def exec (i : Instr) (s : State) : Host.Outcome State Fault Refusal :=
  match i with
  | .LD_BC_nn nn => Sys2Proof.Machine.execLD_BC_nn nn s
  | .LD_B_n n => Sys2Proof.Machine.execLD_B_n n s
  | .LD_mnn_SP nn => Sys2Proof.Machine.execLD_mnn_SP nn s
  | .LD_C_n n => Sys2Proof.Machine.execLD_C_n n s
  | .LD_DE_nn nn => Sys2Proof.Machine.execLD_DE_nn nn s
  | .LD_D_n n => Sys2Proof.Machine.execLD_D_n n s
  | .JR_e e => Sys2Proof.Machine.execJR_e e s
  | .LD_E_n n => Sys2Proof.Machine.execLD_E_n n s
  | .JR_NZ_e e => Sys2Proof.Machine.execJR_NZ_e e s
  | .LD_HL_nn nn => Sys2Proof.Machine.execLD_HL_nn nn s
  | .LD_H_n n => Sys2Proof.Machine.execLD_H_n n s
  | .JR_Z_e e => Sys2Proof.Machine.execJR_Z_e e s
  | .LD_L_n n => Sys2Proof.Machine.execLD_L_n n s
  | .JR_NC_e e => Sys2Proof.Machine.execJR_NC_e e s
  | .LD_SP_nn nn => Sys2Proof.Machine.execLD_SP_nn nn s
  | .LD_mHL_n n => Sys2Proof.Machine.execLD_mHL_n n s
  | .JR_C_e e => Sys2Proof.Machine.execJR_C_e e s
  | .LD_A_n n => Sys2Proof.Machine.execLD_A_n n s
  | .JP_NZ_nn nn => Sys2Proof.Machine.execJP_NZ_nn nn s
  | .JP_nn nn => Sys2Proof.Machine.execJP_nn nn s
  | .CALL_NZ_nn nn => Sys2Proof.Machine.execCALL_NZ_nn nn s
  | .ADD_A_n n => Sys2Proof.Machine.execADD_A_n n s
  | .JP_Z_nn nn => Sys2Proof.Machine.execJP_Z_nn nn s
  | .CALL_Z_nn nn => Sys2Proof.Machine.execCALL_Z_nn nn s
  | .CALL_nn nn => Sys2Proof.Machine.execCALL_nn nn s
  | .ADC_A_n n => Sys2Proof.Machine.execADC_A_n n s
  | .JP_NC_nn nn => Sys2Proof.Machine.execJP_NC_nn nn s
  | .CALL_NC_nn nn => Sys2Proof.Machine.execCALL_NC_nn nn s
  | .SUB_A_n n => Sys2Proof.Machine.execSUB_A_n n s
  | .JP_C_nn nn => Sys2Proof.Machine.execJP_C_nn nn s
  | .CALL_C_nn nn => Sys2Proof.Machine.execCALL_C_nn nn s
  | .SBC_A_n n => Sys2Proof.Machine.execSBC_A_n n s
  | .LDH_mn_A n => Sys2Proof.Machine.execLDH_mn_A n s
  | .AND_A_n n => Sys2Proof.Machine.execAND_A_n n s
  | .ADD_SP_e e => Sys2Proof.Machine.execADD_SP_e e s
  | .LD_mnn_A nn => Sys2Proof.Machine.execLD_mnn_A nn s
  | .XOR_A_n n => Sys2Proof.Machine.execXOR_A_n n s
  | .LDH_A_mn n => Sys2Proof.Machine.execLDH_A_mn n s
  | .OR_A_n n => Sys2Proof.Machine.execOR_A_n n s
  | .LD_HL_SP_e e => Sys2Proof.Machine.execLD_HL_SP_e e s
  | .LD_A_mnn nn => Sys2Proof.Machine.execLD_A_mnn nn s
  | .CP_A_n n => Sys2Proof.Machine.execCP_A_n n s
  | .NOP => Sys2Proof.Machine.execNOP s
  | .LD_mBC_A => Sys2Proof.Machine.execLD_mBC_A s
  | .INC_BC => Sys2Proof.Machine.execINC_BC s
  | .INC_B => Sys2Proof.Machine.execINC_B s
  | .DEC_B => Sys2Proof.Machine.execDEC_B s
  | .RLCA => Sys2Proof.Machine.execRLCA s
  | .ADD_HL_BC => Sys2Proof.Machine.execADD_HL_BC s
  | .LD_A_mBC => Sys2Proof.Machine.execLD_A_mBC s
  | .DEC_BC => Sys2Proof.Machine.execDEC_BC s
  | .INC_C => Sys2Proof.Machine.execINC_C s
  | .DEC_C => Sys2Proof.Machine.execDEC_C s
  | .RRCA => Sys2Proof.Machine.execRRCA s
  | .STOP => Sys2Proof.Machine.execSTOP s
  | .LD_mDE_A => Sys2Proof.Machine.execLD_mDE_A s
  | .INC_DE => Sys2Proof.Machine.execINC_DE s
  | .INC_D => Sys2Proof.Machine.execINC_D s
  | .DEC_D => Sys2Proof.Machine.execDEC_D s
  | .RLA => Sys2Proof.Machine.execRLA s
  | .ADD_HL_DE => Sys2Proof.Machine.execADD_HL_DE s
  | .LD_A_mDE => Sys2Proof.Machine.execLD_A_mDE s
  | .DEC_DE => Sys2Proof.Machine.execDEC_DE s
  | .INC_E => Sys2Proof.Machine.execINC_E s
  | .DEC_E => Sys2Proof.Machine.execDEC_E s
  | .RRA => Sys2Proof.Machine.execRRA s
  | .LD_mHLinc_A => Sys2Proof.Machine.execLD_mHLinc_A s
  | .INC_HL => Sys2Proof.Machine.execINC_HL s
  | .INC_H => Sys2Proof.Machine.execINC_H s
  | .DEC_H => Sys2Proof.Machine.execDEC_H s
  | .DAA => Sys2Proof.Machine.execDAA s
  | .ADD_HL_HL => Sys2Proof.Machine.execADD_HL_HL s
  | .LD_A_mHLinc => Sys2Proof.Machine.execLD_A_mHLinc s
  | .DEC_HL => Sys2Proof.Machine.execDEC_HL s
  | .INC_L => Sys2Proof.Machine.execINC_L s
  | .DEC_L => Sys2Proof.Machine.execDEC_L s
  | .CPL => Sys2Proof.Machine.execCPL s
  | .LD_mHLdec_A => Sys2Proof.Machine.execLD_mHLdec_A s
  | .INC_SP => Sys2Proof.Machine.execINC_SP s
  | .INC_mHL => Sys2Proof.Machine.execINC_mHL s
  | .DEC_mHL => Sys2Proof.Machine.execDEC_mHL s
  | .SCF => Sys2Proof.Machine.execSCF s
  | .ADD_HL_SP => Sys2Proof.Machine.execADD_HL_SP s
  | .LD_A_mHLdec => Sys2Proof.Machine.execLD_A_mHLdec s
  | .DEC_SP => Sys2Proof.Machine.execDEC_SP s
  | .INC_A => Sys2Proof.Machine.execINC_A s
  | .DEC_A => Sys2Proof.Machine.execDEC_A s
  | .CCF => Sys2Proof.Machine.execCCF s
  | .LD_B_B => Sys2Proof.Machine.execLD_B_B s
  | .LD_B_C => Sys2Proof.Machine.execLD_B_C s
  | .LD_B_D => Sys2Proof.Machine.execLD_B_D s
  | .LD_B_E => Sys2Proof.Machine.execLD_B_E s
  | .LD_B_H => Sys2Proof.Machine.execLD_B_H s
  | .LD_B_L => Sys2Proof.Machine.execLD_B_L s
  | .LD_B_mHL => Sys2Proof.Machine.execLD_B_mHL s
  | .LD_B_A => Sys2Proof.Machine.execLD_B_A s
  | .LD_C_B => Sys2Proof.Machine.execLD_C_B s
  | .LD_C_C => Sys2Proof.Machine.execLD_C_C s
  | .LD_C_D => Sys2Proof.Machine.execLD_C_D s
  | .LD_C_E => Sys2Proof.Machine.execLD_C_E s
  | .LD_C_H => Sys2Proof.Machine.execLD_C_H s
  | .LD_C_L => Sys2Proof.Machine.execLD_C_L s
  | .LD_C_mHL => Sys2Proof.Machine.execLD_C_mHL s
  | .LD_C_A => Sys2Proof.Machine.execLD_C_A s
  | .LD_D_B => Sys2Proof.Machine.execLD_D_B s
  | .LD_D_C => Sys2Proof.Machine.execLD_D_C s
  | .LD_D_D => Sys2Proof.Machine.execLD_D_D s
  | .LD_D_E => Sys2Proof.Machine.execLD_D_E s
  | .LD_D_H => Sys2Proof.Machine.execLD_D_H s
  | .LD_D_L => Sys2Proof.Machine.execLD_D_L s
  | .LD_D_mHL => Sys2Proof.Machine.execLD_D_mHL s
  | .LD_D_A => Sys2Proof.Machine.execLD_D_A s
  | .LD_E_B => Sys2Proof.Machine.execLD_E_B s
  | .LD_E_C => Sys2Proof.Machine.execLD_E_C s
  | .LD_E_D => Sys2Proof.Machine.execLD_E_D s
  | .LD_E_E => Sys2Proof.Machine.execLD_E_E s
  | .LD_E_H => Sys2Proof.Machine.execLD_E_H s
  | .LD_E_L => Sys2Proof.Machine.execLD_E_L s
  | .LD_E_mHL => Sys2Proof.Machine.execLD_E_mHL s
  | .LD_E_A => Sys2Proof.Machine.execLD_E_A s
  | .LD_H_B => Sys2Proof.Machine.execLD_H_B s
  | .LD_H_C => Sys2Proof.Machine.execLD_H_C s
  | .LD_H_D => Sys2Proof.Machine.execLD_H_D s
  | .LD_H_E => Sys2Proof.Machine.execLD_H_E s
  | .LD_H_H => Sys2Proof.Machine.execLD_H_H s
  | .LD_H_L => Sys2Proof.Machine.execLD_H_L s
  | .LD_H_mHL => Sys2Proof.Machine.execLD_H_mHL s
  | .LD_H_A => Sys2Proof.Machine.execLD_H_A s
  | .LD_L_B => Sys2Proof.Machine.execLD_L_B s
  | .LD_L_C => Sys2Proof.Machine.execLD_L_C s
  | .LD_L_D => Sys2Proof.Machine.execLD_L_D s
  | .LD_L_E => Sys2Proof.Machine.execLD_L_E s
  | .LD_L_H => Sys2Proof.Machine.execLD_L_H s
  | .LD_L_L => Sys2Proof.Machine.execLD_L_L s
  | .LD_L_mHL => Sys2Proof.Machine.execLD_L_mHL s
  | .LD_L_A => Sys2Proof.Machine.execLD_L_A s
  | .LD_mHL_B => Sys2Proof.Machine.execLD_mHL_B s
  | .LD_mHL_C => Sys2Proof.Machine.execLD_mHL_C s
  | .LD_mHL_D => Sys2Proof.Machine.execLD_mHL_D s
  | .LD_mHL_E => Sys2Proof.Machine.execLD_mHL_E s
  | .LD_mHL_H => Sys2Proof.Machine.execLD_mHL_H s
  | .LD_mHL_L => Sys2Proof.Machine.execLD_mHL_L s
  | .HALT => Sys2Proof.Machine.execHALT s
  | .LD_mHL_A => Sys2Proof.Machine.execLD_mHL_A s
  | .LD_A_B => Sys2Proof.Machine.execLD_A_B s
  | .LD_A_C => Sys2Proof.Machine.execLD_A_C s
  | .LD_A_D => Sys2Proof.Machine.execLD_A_D s
  | .LD_A_E => Sys2Proof.Machine.execLD_A_E s
  | .LD_A_H => Sys2Proof.Machine.execLD_A_H s
  | .LD_A_L => Sys2Proof.Machine.execLD_A_L s
  | .LD_A_mHL => Sys2Proof.Machine.execLD_A_mHL s
  | .LD_A_A => Sys2Proof.Machine.execLD_A_A s
  | .ADD_A_B => Sys2Proof.Machine.execADD_A_B s
  | .ADD_A_C => Sys2Proof.Machine.execADD_A_C s
  | .ADD_A_D => Sys2Proof.Machine.execADD_A_D s
  | .ADD_A_E => Sys2Proof.Machine.execADD_A_E s
  | .ADD_A_H => Sys2Proof.Machine.execADD_A_H s
  | .ADD_A_L => Sys2Proof.Machine.execADD_A_L s
  | .ADD_A_mHL => Sys2Proof.Machine.execADD_A_mHL s
  | .ADD_A_A => Sys2Proof.Machine.execADD_A_A s
  | .ADC_A_B => Sys2Proof.Machine.execADC_A_B s
  | .ADC_A_C => Sys2Proof.Machine.execADC_A_C s
  | .ADC_A_D => Sys2Proof.Machine.execADC_A_D s
  | .ADC_A_E => Sys2Proof.Machine.execADC_A_E s
  | .ADC_A_H => Sys2Proof.Machine.execADC_A_H s
  | .ADC_A_L => Sys2Proof.Machine.execADC_A_L s
  | .ADC_A_mHL => Sys2Proof.Machine.execADC_A_mHL s
  | .ADC_A_A => Sys2Proof.Machine.execADC_A_A s
  | .SUB_A_B => Sys2Proof.Machine.execSUB_A_B s
  | .SUB_A_C => Sys2Proof.Machine.execSUB_A_C s
  | .SUB_A_D => Sys2Proof.Machine.execSUB_A_D s
  | .SUB_A_E => Sys2Proof.Machine.execSUB_A_E s
  | .SUB_A_H => Sys2Proof.Machine.execSUB_A_H s
  | .SUB_A_L => Sys2Proof.Machine.execSUB_A_L s
  | .SUB_A_mHL => Sys2Proof.Machine.execSUB_A_mHL s
  | .SUB_A_A => Sys2Proof.Machine.execSUB_A_A s
  | .SBC_A_B => Sys2Proof.Machine.execSBC_A_B s
  | .SBC_A_C => Sys2Proof.Machine.execSBC_A_C s
  | .SBC_A_D => Sys2Proof.Machine.execSBC_A_D s
  | .SBC_A_E => Sys2Proof.Machine.execSBC_A_E s
  | .SBC_A_H => Sys2Proof.Machine.execSBC_A_H s
  | .SBC_A_L => Sys2Proof.Machine.execSBC_A_L s
  | .SBC_A_mHL => Sys2Proof.Machine.execSBC_A_mHL s
  | .SBC_A_A => Sys2Proof.Machine.execSBC_A_A s
  | .AND_A_B => Sys2Proof.Machine.execAND_A_B s
  | .AND_A_C => Sys2Proof.Machine.execAND_A_C s
  | .AND_A_D => Sys2Proof.Machine.execAND_A_D s
  | .AND_A_E => Sys2Proof.Machine.execAND_A_E s
  | .AND_A_H => Sys2Proof.Machine.execAND_A_H s
  | .AND_A_L => Sys2Proof.Machine.execAND_A_L s
  | .AND_A_mHL => Sys2Proof.Machine.execAND_A_mHL s
  | .AND_A_A => Sys2Proof.Machine.execAND_A_A s
  | .XOR_A_B => Sys2Proof.Machine.execXOR_A_B s
  | .XOR_A_C => Sys2Proof.Machine.execXOR_A_C s
  | .XOR_A_D => Sys2Proof.Machine.execXOR_A_D s
  | .XOR_A_E => Sys2Proof.Machine.execXOR_A_E s
  | .XOR_A_H => Sys2Proof.Machine.execXOR_A_H s
  | .XOR_A_L => Sys2Proof.Machine.execXOR_A_L s
  | .XOR_A_mHL => Sys2Proof.Machine.execXOR_A_mHL s
  | .XOR_A_A => Sys2Proof.Machine.execXOR_A_A s
  | .OR_A_B => Sys2Proof.Machine.execOR_A_B s
  | .OR_A_C => Sys2Proof.Machine.execOR_A_C s
  | .OR_A_D => Sys2Proof.Machine.execOR_A_D s
  | .OR_A_E => Sys2Proof.Machine.execOR_A_E s
  | .OR_A_H => Sys2Proof.Machine.execOR_A_H s
  | .OR_A_L => Sys2Proof.Machine.execOR_A_L s
  | .OR_A_mHL => Sys2Proof.Machine.execOR_A_mHL s
  | .OR_A_A => Sys2Proof.Machine.execOR_A_A s
  | .CP_A_B => Sys2Proof.Machine.execCP_A_B s
  | .CP_A_C => Sys2Proof.Machine.execCP_A_C s
  | .CP_A_D => Sys2Proof.Machine.execCP_A_D s
  | .CP_A_E => Sys2Proof.Machine.execCP_A_E s
  | .CP_A_H => Sys2Proof.Machine.execCP_A_H s
  | .CP_A_L => Sys2Proof.Machine.execCP_A_L s
  | .CP_A_mHL => Sys2Proof.Machine.execCP_A_mHL s
  | .CP_A_A => Sys2Proof.Machine.execCP_A_A s
  | .RET_NZ => Sys2Proof.Machine.execRET_NZ s
  | .POP_BC => Sys2Proof.Machine.execPOP_BC s
  | .PUSH_BC => Sys2Proof.Machine.execPUSH_BC s
  | .RST_00H => Sys2Proof.Machine.execRST_00H s
  | .RET_Z => Sys2Proof.Machine.execRET_Z s
  | .RET => Sys2Proof.Machine.execRET s
  | .PREFIX_CB => Sys2Proof.Machine.execPREFIX_CB s
  | .RST_08H => Sys2Proof.Machine.execRST_08H s
  | .RET_NC => Sys2Proof.Machine.execRET_NC s
  | .POP_DE => Sys2Proof.Machine.execPOP_DE s
  | .illegal_0xD3 => Sys2Proof.Machine.execillegal_0xD3 s
  | .PUSH_DE => Sys2Proof.Machine.execPUSH_DE s
  | .RST_10H => Sys2Proof.Machine.execRST_10H s
  | .RET_C => Sys2Proof.Machine.execRET_C s
  | .RETI => Sys2Proof.Machine.execRETI s
  | .illegal_0xDB => Sys2Proof.Machine.execillegal_0xDB s
  | .illegal_0xDD => Sys2Proof.Machine.execillegal_0xDD s
  | .RST_18H => Sys2Proof.Machine.execRST_18H s
  | .POP_HL => Sys2Proof.Machine.execPOP_HL s
  | .LD_mC_A => Sys2Proof.Machine.execLD_mC_A s
  | .illegal_0xE3 => Sys2Proof.Machine.execillegal_0xE3 s
  | .illegal_0xE4 => Sys2Proof.Machine.execillegal_0xE4 s
  | .PUSH_HL => Sys2Proof.Machine.execPUSH_HL s
  | .RST_20H => Sys2Proof.Machine.execRST_20H s
  | .JP_HL => Sys2Proof.Machine.execJP_HL s
  | .illegal_0xEB => Sys2Proof.Machine.execillegal_0xEB s
  | .illegal_0xEC => Sys2Proof.Machine.execillegal_0xEC s
  | .illegal_0xED => Sys2Proof.Machine.execillegal_0xED s
  | .RST_28H => Sys2Proof.Machine.execRST_28H s
  | .POP_AF => Sys2Proof.Machine.execPOP_AF s
  | .LD_A_mC => Sys2Proof.Machine.execLD_A_mC s
  | .DI => Sys2Proof.Machine.execDI s
  | .illegal_0xF4 => Sys2Proof.Machine.execillegal_0xF4 s
  | .PUSH_AF => Sys2Proof.Machine.execPUSH_AF s
  | .RST_30H => Sys2Proof.Machine.execRST_30H s
  | .LD_SP_HL => Sys2Proof.Machine.execLD_SP_HL s
  | .EI => Sys2Proof.Machine.execEI s
  | .illegal_0xFC => Sys2Proof.Machine.execillegal_0xFC s
  | .illegal_0xFD => Sys2Proof.Machine.execillegal_0xFD s
  | .RST_38H => Sys2Proof.Machine.execRST_38H s
  | .RLC_B => Sys2Proof.Machine.execRLC_B s
  | .RLC_C => Sys2Proof.Machine.execRLC_C s
  | .RLC_D => Sys2Proof.Machine.execRLC_D s
  | .RLC_E => Sys2Proof.Machine.execRLC_E s
  | .RLC_H => Sys2Proof.Machine.execRLC_H s
  | .RLC_L => Sys2Proof.Machine.execRLC_L s
  | .RLC_mHL => Sys2Proof.Machine.execRLC_mHL s
  | .RLC_A => Sys2Proof.Machine.execRLC_A s
  | .RRC_B => Sys2Proof.Machine.execRRC_B s
  | .RRC_C => Sys2Proof.Machine.execRRC_C s
  | .RRC_D => Sys2Proof.Machine.execRRC_D s
  | .RRC_E => Sys2Proof.Machine.execRRC_E s
  | .RRC_H => Sys2Proof.Machine.execRRC_H s
  | .RRC_L => Sys2Proof.Machine.execRRC_L s
  | .RRC_mHL => Sys2Proof.Machine.execRRC_mHL s
  | .RRC_A => Sys2Proof.Machine.execRRC_A s
  | .RL_B => Sys2Proof.Machine.execRL_B s
  | .RL_C => Sys2Proof.Machine.execRL_C s
  | .RL_D => Sys2Proof.Machine.execRL_D s
  | .RL_E => Sys2Proof.Machine.execRL_E s
  | .RL_H => Sys2Proof.Machine.execRL_H s
  | .RL_L => Sys2Proof.Machine.execRL_L s
  | .RL_mHL => Sys2Proof.Machine.execRL_mHL s
  | .RL_A => Sys2Proof.Machine.execRL_A s
  | .RR_B => Sys2Proof.Machine.execRR_B s
  | .RR_C => Sys2Proof.Machine.execRR_C s
  | .RR_D => Sys2Proof.Machine.execRR_D s
  | .RR_E => Sys2Proof.Machine.execRR_E s
  | .RR_H => Sys2Proof.Machine.execRR_H s
  | .RR_L => Sys2Proof.Machine.execRR_L s
  | .RR_mHL => Sys2Proof.Machine.execRR_mHL s
  | .RR_A => Sys2Proof.Machine.execRR_A s
  | .SLA_B => Sys2Proof.Machine.execSLA_B s
  | .SLA_C => Sys2Proof.Machine.execSLA_C s
  | .SLA_D => Sys2Proof.Machine.execSLA_D s
  | .SLA_E => Sys2Proof.Machine.execSLA_E s
  | .SLA_H => Sys2Proof.Machine.execSLA_H s
  | .SLA_L => Sys2Proof.Machine.execSLA_L s
  | .SLA_mHL => Sys2Proof.Machine.execSLA_mHL s
  | .SLA_A => Sys2Proof.Machine.execSLA_A s
  | .SRA_B => Sys2Proof.Machine.execSRA_B s
  | .SRA_C => Sys2Proof.Machine.execSRA_C s
  | .SRA_D => Sys2Proof.Machine.execSRA_D s
  | .SRA_E => Sys2Proof.Machine.execSRA_E s
  | .SRA_H => Sys2Proof.Machine.execSRA_H s
  | .SRA_L => Sys2Proof.Machine.execSRA_L s
  | .SRA_mHL => Sys2Proof.Machine.execSRA_mHL s
  | .SRA_A => Sys2Proof.Machine.execSRA_A s
  | .SWAP_B => Sys2Proof.Machine.execSWAP_B s
  | .SWAP_C => Sys2Proof.Machine.execSWAP_C s
  | .SWAP_D => Sys2Proof.Machine.execSWAP_D s
  | .SWAP_E => Sys2Proof.Machine.execSWAP_E s
  | .SWAP_H => Sys2Proof.Machine.execSWAP_H s
  | .SWAP_L => Sys2Proof.Machine.execSWAP_L s
  | .SWAP_mHL => Sys2Proof.Machine.execSWAP_mHL s
  | .SWAP_A => Sys2Proof.Machine.execSWAP_A s
  | .SRL_B => Sys2Proof.Machine.execSRL_B s
  | .SRL_C => Sys2Proof.Machine.execSRL_C s
  | .SRL_D => Sys2Proof.Machine.execSRL_D s
  | .SRL_E => Sys2Proof.Machine.execSRL_E s
  | .SRL_H => Sys2Proof.Machine.execSRL_H s
  | .SRL_L => Sys2Proof.Machine.execSRL_L s
  | .SRL_mHL => Sys2Proof.Machine.execSRL_mHL s
  | .SRL_A => Sys2Proof.Machine.execSRL_A s
  | .BIT_0_B => Sys2Proof.Machine.execBIT_0_B s
  | .BIT_0_C => Sys2Proof.Machine.execBIT_0_C s
  | .BIT_0_D => Sys2Proof.Machine.execBIT_0_D s
  | .BIT_0_E => Sys2Proof.Machine.execBIT_0_E s
  | .BIT_0_H => Sys2Proof.Machine.execBIT_0_H s
  | .BIT_0_L => Sys2Proof.Machine.execBIT_0_L s
  | .BIT_0_mHL => Sys2Proof.Machine.execBIT_0_mHL s
  | .BIT_0_A => Sys2Proof.Machine.execBIT_0_A s
  | .BIT_1_B => Sys2Proof.Machine.execBIT_1_B s
  | .BIT_1_C => Sys2Proof.Machine.execBIT_1_C s
  | .BIT_1_D => Sys2Proof.Machine.execBIT_1_D s
  | .BIT_1_E => Sys2Proof.Machine.execBIT_1_E s
  | .BIT_1_H => Sys2Proof.Machine.execBIT_1_H s
  | .BIT_1_L => Sys2Proof.Machine.execBIT_1_L s
  | .BIT_1_mHL => Sys2Proof.Machine.execBIT_1_mHL s
  | .BIT_1_A => Sys2Proof.Machine.execBIT_1_A s
  | .BIT_2_B => Sys2Proof.Machine.execBIT_2_B s
  | .BIT_2_C => Sys2Proof.Machine.execBIT_2_C s
  | .BIT_2_D => Sys2Proof.Machine.execBIT_2_D s
  | .BIT_2_E => Sys2Proof.Machine.execBIT_2_E s
  | .BIT_2_H => Sys2Proof.Machine.execBIT_2_H s
  | .BIT_2_L => Sys2Proof.Machine.execBIT_2_L s
  | .BIT_2_mHL => Sys2Proof.Machine.execBIT_2_mHL s
  | .BIT_2_A => Sys2Proof.Machine.execBIT_2_A s
  | .BIT_3_B => Sys2Proof.Machine.execBIT_3_B s
  | .BIT_3_C => Sys2Proof.Machine.execBIT_3_C s
  | .BIT_3_D => Sys2Proof.Machine.execBIT_3_D s
  | .BIT_3_E => Sys2Proof.Machine.execBIT_3_E s
  | .BIT_3_H => Sys2Proof.Machine.execBIT_3_H s
  | .BIT_3_L => Sys2Proof.Machine.execBIT_3_L s
  | .BIT_3_mHL => Sys2Proof.Machine.execBIT_3_mHL s
  | .BIT_3_A => Sys2Proof.Machine.execBIT_3_A s
  | .BIT_4_B => Sys2Proof.Machine.execBIT_4_B s
  | .BIT_4_C => Sys2Proof.Machine.execBIT_4_C s
  | .BIT_4_D => Sys2Proof.Machine.execBIT_4_D s
  | .BIT_4_E => Sys2Proof.Machine.execBIT_4_E s
  | .BIT_4_H => Sys2Proof.Machine.execBIT_4_H s
  | .BIT_4_L => Sys2Proof.Machine.execBIT_4_L s
  | .BIT_4_mHL => Sys2Proof.Machine.execBIT_4_mHL s
  | .BIT_4_A => Sys2Proof.Machine.execBIT_4_A s
  | .BIT_5_B => Sys2Proof.Machine.execBIT_5_B s
  | .BIT_5_C => Sys2Proof.Machine.execBIT_5_C s
  | .BIT_5_D => Sys2Proof.Machine.execBIT_5_D s
  | .BIT_5_E => Sys2Proof.Machine.execBIT_5_E s
  | .BIT_5_H => Sys2Proof.Machine.execBIT_5_H s
  | .BIT_5_L => Sys2Proof.Machine.execBIT_5_L s
  | .BIT_5_mHL => Sys2Proof.Machine.execBIT_5_mHL s
  | .BIT_5_A => Sys2Proof.Machine.execBIT_5_A s
  | .BIT_6_B => Sys2Proof.Machine.execBIT_6_B s
  | .BIT_6_C => Sys2Proof.Machine.execBIT_6_C s
  | .BIT_6_D => Sys2Proof.Machine.execBIT_6_D s
  | .BIT_6_E => Sys2Proof.Machine.execBIT_6_E s
  | .BIT_6_H => Sys2Proof.Machine.execBIT_6_H s
  | .BIT_6_L => Sys2Proof.Machine.execBIT_6_L s
  | .BIT_6_mHL => Sys2Proof.Machine.execBIT_6_mHL s
  | .BIT_6_A => Sys2Proof.Machine.execBIT_6_A s
  | .BIT_7_B => Sys2Proof.Machine.execBIT_7_B s
  | .BIT_7_C => Sys2Proof.Machine.execBIT_7_C s
  | .BIT_7_D => Sys2Proof.Machine.execBIT_7_D s
  | .BIT_7_E => Sys2Proof.Machine.execBIT_7_E s
  | .BIT_7_H => Sys2Proof.Machine.execBIT_7_H s
  | .BIT_7_L => Sys2Proof.Machine.execBIT_7_L s
  | .BIT_7_mHL => Sys2Proof.Machine.execBIT_7_mHL s
  | .BIT_7_A => Sys2Proof.Machine.execBIT_7_A s
  | .RES_0_B => Sys2Proof.Machine.execRES_0_B s
  | .RES_0_C => Sys2Proof.Machine.execRES_0_C s
  | .RES_0_D => Sys2Proof.Machine.execRES_0_D s
  | .RES_0_E => Sys2Proof.Machine.execRES_0_E s
  | .RES_0_H => Sys2Proof.Machine.execRES_0_H s
  | .RES_0_L => Sys2Proof.Machine.execRES_0_L s
  | .RES_0_mHL => Sys2Proof.Machine.execRES_0_mHL s
  | .RES_0_A => Sys2Proof.Machine.execRES_0_A s
  | .RES_1_B => Sys2Proof.Machine.execRES_1_B s
  | .RES_1_C => Sys2Proof.Machine.execRES_1_C s
  | .RES_1_D => Sys2Proof.Machine.execRES_1_D s
  | .RES_1_E => Sys2Proof.Machine.execRES_1_E s
  | .RES_1_H => Sys2Proof.Machine.execRES_1_H s
  | .RES_1_L => Sys2Proof.Machine.execRES_1_L s
  | .RES_1_mHL => Sys2Proof.Machine.execRES_1_mHL s
  | .RES_1_A => Sys2Proof.Machine.execRES_1_A s
  | .RES_2_B => Sys2Proof.Machine.execRES_2_B s
  | .RES_2_C => Sys2Proof.Machine.execRES_2_C s
  | .RES_2_D => Sys2Proof.Machine.execRES_2_D s
  | .RES_2_E => Sys2Proof.Machine.execRES_2_E s
  | .RES_2_H => Sys2Proof.Machine.execRES_2_H s
  | .RES_2_L => Sys2Proof.Machine.execRES_2_L s
  | .RES_2_mHL => Sys2Proof.Machine.execRES_2_mHL s
  | .RES_2_A => Sys2Proof.Machine.execRES_2_A s
  | .RES_3_B => Sys2Proof.Machine.execRES_3_B s
  | .RES_3_C => Sys2Proof.Machine.execRES_3_C s
  | .RES_3_D => Sys2Proof.Machine.execRES_3_D s
  | .RES_3_E => Sys2Proof.Machine.execRES_3_E s
  | .RES_3_H => Sys2Proof.Machine.execRES_3_H s
  | .RES_3_L => Sys2Proof.Machine.execRES_3_L s
  | .RES_3_mHL => Sys2Proof.Machine.execRES_3_mHL s
  | .RES_3_A => Sys2Proof.Machine.execRES_3_A s
  | .RES_4_B => Sys2Proof.Machine.execRES_4_B s
  | .RES_4_C => Sys2Proof.Machine.execRES_4_C s
  | .RES_4_D => Sys2Proof.Machine.execRES_4_D s
  | .RES_4_E => Sys2Proof.Machine.execRES_4_E s
  | .RES_4_H => Sys2Proof.Machine.execRES_4_H s
  | .RES_4_L => Sys2Proof.Machine.execRES_4_L s
  | .RES_4_mHL => Sys2Proof.Machine.execRES_4_mHL s
  | .RES_4_A => Sys2Proof.Machine.execRES_4_A s
  | .RES_5_B => Sys2Proof.Machine.execRES_5_B s
  | .RES_5_C => Sys2Proof.Machine.execRES_5_C s
  | .RES_5_D => Sys2Proof.Machine.execRES_5_D s
  | .RES_5_E => Sys2Proof.Machine.execRES_5_E s
  | .RES_5_H => Sys2Proof.Machine.execRES_5_H s
  | .RES_5_L => Sys2Proof.Machine.execRES_5_L s
  | .RES_5_mHL => Sys2Proof.Machine.execRES_5_mHL s
  | .RES_5_A => Sys2Proof.Machine.execRES_5_A s
  | .RES_6_B => Sys2Proof.Machine.execRES_6_B s
  | .RES_6_C => Sys2Proof.Machine.execRES_6_C s
  | .RES_6_D => Sys2Proof.Machine.execRES_6_D s
  | .RES_6_E => Sys2Proof.Machine.execRES_6_E s
  | .RES_6_H => Sys2Proof.Machine.execRES_6_H s
  | .RES_6_L => Sys2Proof.Machine.execRES_6_L s
  | .RES_6_mHL => Sys2Proof.Machine.execRES_6_mHL s
  | .RES_6_A => Sys2Proof.Machine.execRES_6_A s
  | .RES_7_B => Sys2Proof.Machine.execRES_7_B s
  | .RES_7_C => Sys2Proof.Machine.execRES_7_C s
  | .RES_7_D => Sys2Proof.Machine.execRES_7_D s
  | .RES_7_E => Sys2Proof.Machine.execRES_7_E s
  | .RES_7_H => Sys2Proof.Machine.execRES_7_H s
  | .RES_7_L => Sys2Proof.Machine.execRES_7_L s
  | .RES_7_mHL => Sys2Proof.Machine.execRES_7_mHL s
  | .RES_7_A => Sys2Proof.Machine.execRES_7_A s
  | .SET_0_B => Sys2Proof.Machine.execSET_0_B s
  | .SET_0_C => Sys2Proof.Machine.execSET_0_C s
  | .SET_0_D => Sys2Proof.Machine.execSET_0_D s
  | .SET_0_E => Sys2Proof.Machine.execSET_0_E s
  | .SET_0_H => Sys2Proof.Machine.execSET_0_H s
  | .SET_0_L => Sys2Proof.Machine.execSET_0_L s
  | .SET_0_mHL => Sys2Proof.Machine.execSET_0_mHL s
  | .SET_0_A => Sys2Proof.Machine.execSET_0_A s
  | .SET_1_B => Sys2Proof.Machine.execSET_1_B s
  | .SET_1_C => Sys2Proof.Machine.execSET_1_C s
  | .SET_1_D => Sys2Proof.Machine.execSET_1_D s
  | .SET_1_E => Sys2Proof.Machine.execSET_1_E s
  | .SET_1_H => Sys2Proof.Machine.execSET_1_H s
  | .SET_1_L => Sys2Proof.Machine.execSET_1_L s
  | .SET_1_mHL => Sys2Proof.Machine.execSET_1_mHL s
  | .SET_1_A => Sys2Proof.Machine.execSET_1_A s
  | .SET_2_B => Sys2Proof.Machine.execSET_2_B s
  | .SET_2_C => Sys2Proof.Machine.execSET_2_C s
  | .SET_2_D => Sys2Proof.Machine.execSET_2_D s
  | .SET_2_E => Sys2Proof.Machine.execSET_2_E s
  | .SET_2_H => Sys2Proof.Machine.execSET_2_H s
  | .SET_2_L => Sys2Proof.Machine.execSET_2_L s
  | .SET_2_mHL => Sys2Proof.Machine.execSET_2_mHL s
  | .SET_2_A => Sys2Proof.Machine.execSET_2_A s
  | .SET_3_B => Sys2Proof.Machine.execSET_3_B s
  | .SET_3_C => Sys2Proof.Machine.execSET_3_C s
  | .SET_3_D => Sys2Proof.Machine.execSET_3_D s
  | .SET_3_E => Sys2Proof.Machine.execSET_3_E s
  | .SET_3_H => Sys2Proof.Machine.execSET_3_H s
  | .SET_3_L => Sys2Proof.Machine.execSET_3_L s
  | .SET_3_mHL => Sys2Proof.Machine.execSET_3_mHL s
  | .SET_3_A => Sys2Proof.Machine.execSET_3_A s
  | .SET_4_B => Sys2Proof.Machine.execSET_4_B s
  | .SET_4_C => Sys2Proof.Machine.execSET_4_C s
  | .SET_4_D => Sys2Proof.Machine.execSET_4_D s
  | .SET_4_E => Sys2Proof.Machine.execSET_4_E s
  | .SET_4_H => Sys2Proof.Machine.execSET_4_H s
  | .SET_4_L => Sys2Proof.Machine.execSET_4_L s
  | .SET_4_mHL => Sys2Proof.Machine.execSET_4_mHL s
  | .SET_4_A => Sys2Proof.Machine.execSET_4_A s
  | .SET_5_B => Sys2Proof.Machine.execSET_5_B s
  | .SET_5_C => Sys2Proof.Machine.execSET_5_C s
  | .SET_5_D => Sys2Proof.Machine.execSET_5_D s
  | .SET_5_E => Sys2Proof.Machine.execSET_5_E s
  | .SET_5_H => Sys2Proof.Machine.execSET_5_H s
  | .SET_5_L => Sys2Proof.Machine.execSET_5_L s
  | .SET_5_mHL => Sys2Proof.Machine.execSET_5_mHL s
  | .SET_5_A => Sys2Proof.Machine.execSET_5_A s
  | .SET_6_B => Sys2Proof.Machine.execSET_6_B s
  | .SET_6_C => Sys2Proof.Machine.execSET_6_C s
  | .SET_6_D => Sys2Proof.Machine.execSET_6_D s
  | .SET_6_E => Sys2Proof.Machine.execSET_6_E s
  | .SET_6_H => Sys2Proof.Machine.execSET_6_H s
  | .SET_6_L => Sys2Proof.Machine.execSET_6_L s
  | .SET_6_mHL => Sys2Proof.Machine.execSET_6_mHL s
  | .SET_6_A => Sys2Proof.Machine.execSET_6_A s
  | .SET_7_B => Sys2Proof.Machine.execSET_7_B s
  | .SET_7_C => Sys2Proof.Machine.execSET_7_C s
  | .SET_7_D => Sys2Proof.Machine.execSET_7_D s
  | .SET_7_E => Sys2Proof.Machine.execSET_7_E s
  | .SET_7_H => Sys2Proof.Machine.execSET_7_H s
  | .SET_7_L => Sys2Proof.Machine.execSET_7_L s
  | .SET_7_mHL => Sys2Proof.Machine.execSET_7_mHL s
  | .SET_7_A => Sys2Proof.Machine.execSET_7_A s

end Sys2Proof.Machine
end

