-- ==== Sys2Proof/Machine/Fetch.lean ====
section
/-! DEFINITION. Fetching an instruction's bytes and running it (R365, R366), each byte in its own bus cycle (R124, R369), and placing
an instruction where the next fetch reads it. -/

namespace Sys2Proof.Machine

/-- The state after the first `n + 1` bytes of an instruction have been read at PC: the opcode in this bus cycle (R366), each further
byte in the bus cycle after (R369). -/
def bytesRead : Nat → State → State
  | 0, s => fetchOpcode s
  | n + 1, s => immRead (tick (bytesRead n s))

/-- Byte number `n` of an instruction, as it is read: byte 0 is the opcode. -/
def fetchedByte : Nat → State → Byte
  | 0, s => fetchedOpcode s
  | n + 1, s => let t := tick (bytesRead n s); read8 t t.regs.pc

/-- Fetch, decode and run the instruction at PC, by the format of its opcode byte (R321, R366, R367). -/
def runFetched (s : State) : Host.Outcome State Fault Refusal :=
  match primary (fetchedByte 0 s) with
  | .f1 i => exec i (bytesRead 0 s)
  | .f2 mk => exec (mk (fetchedByte 1 s)) (bytesRead 1 s)
  | .f3 mk => exec (mk (immWord (fetchedByte 1 s) (fetchedByte 2 s))) (bytesRead 2 s)
  | .fcb => exec (cbInstr (fetchedByte 1 s)) (bytesRead 1 s)

/-- The step of a running CPU: dispatch check, fetch, execution (R365). -/
def runStep (s : State) : Host.Outcome State Fault Refusal :=
  let t := dispatchCheck s
  if t.vbkRefused then .refused .vramBank1 else runFetched t

/-- The step of a halted CPU: one bus cycle, and the wake where an interrupt is pending in its CPU phase (R365, R612). The dispatch
check and the fetch of that CPU phase are the beginning of the next step (log 1). -/
def haltedStep (s : State) : State :=
  let t := tick s
  { t with eng := { t.eng with run := if pending t = 0 then t.eng.run else .running } }

/-! ## Placing an instruction -/

/-- The address is backed by storage that a fetch reads back: ROM, VRAM, work RAM, high RAM, or an open byte of external RAM. -/
def placeable (s : State) (a : Word) : Bool :=
  match region a with
  | .rom => true
  | .vram => true
  | .wram => true
  | .echo => true
  | .hram => true
  | .cartRam =>
    match s.cart.ramTarget (ramIndex a) with
    | .ext _ => true
    | .closed => false
    | .cell _ => false
    | .clock _ => false
  | .oam => false
  | .unusable => false
  | .io => false
  | .ie => false

/-- The storage behind a placeable address with the byte `v` in it: no CPU write, so ROM can be filled too. -/
def placeByte (s : State) (a : Word) (v : Byte) : State :=
  match region a with
  | .rom => { s with cart := { s.cart with rom := s.cart.rom.write (s.cart.romOffset a) v } }
  | .cartRam => { s with cart := s.cart.writeRam s.env.now (ramIndex a) v }
  | .vram => write8 s a v
  | .wram => write8 s a v
  | .echo => write8 s a v
  | .hram => write8 s a v
  | .oam => s
  | .unusable => s
  | .io => s
  | .ie => s

/-- Where the instruction is placed: at PC if its three bytes are placeable there, else at the entry point 0x0100 (log 16). -/
def placeAddress (s : State) : Word :=
  if placeable s s.regs.pc && placeable s (s.regs.pc + 1) && placeable s (s.regs.pc + 2) then s.regs.pc else 0x0100

/-- Bytes placed at rising addresses. -/
def placeBytes : List Byte → Word → State → State
  | [], _, s => s
  | b :: rest, a, s => placeBytes rest (a + 1) (placeByte s a b)

/-- The state whose next step fetches at PC and nothing else: running, no fault, no refusal, no HALT bug, no interrupt taken first. -/
def readyToFetch (s : State) : State :=
  { s with
    eng := { s.eng with
      run := .running
      haltBug := false
      fault := none
      ime := if dispatches s then .disabled else s.eng.ime }
    vbkRefused := false }

/-- The state whose next step runs the instruction with these bytes (log 16). -/
def placeInstruction (s : State) (bytes : List Byte) : State :=
  let a := placeAddress s
  setPc (placeBytes bytes a (readyToFetch s)) a

end Sys2Proof.Machine
end

