-- ==== Sys2Proof/Machine/Step.lean ====
section
/-! DEFINITION. One step: one instruction, or one bus cycle of a halted or stopped CPU (log 1). -/

namespace Sys2Proof.Machine

/-- One step. A state with a fault has no further step (R53, R361), nor has one after a refused write (R131). A running CPU checks for
an interrupt, fetches and runs one instruction (R365); a halted or stopped one passes a bus cycle (R612 to R615). -/
def step (s : State) : Host.Outcome State Fault Refusal :=
  match s.eng.fault with
  | some (op, addr) => .fault (.illegalOpcode op addr s)
  | none =>
    if s.vbkRefused then .refused .vramBank1
    else
      match s.eng.run with
      | .running => runStep s
      | .halted => .next (haltedStep s)
      | .stopped => .next (tick s)

/-- The state whose next step runs the instruction of a word numbered as the opcode table numbers it (log 14, log 16). -/
def State.withFetchWord (s : State) (nbits w : Nat) : State := placeInstruction s (tableBytes nbits w)

end Sys2Proof.Machine
end

