-- ==== Sys2Proof/Machine/Cycle.lean ====
section
/-! DEFINITION. The spec's own step, one bus cycle (R361 to R370), over the same phases and micro-ops as the meanings. An
instruction-grained `step` is a run of these (log 1): `closeCycle` completes the bus cycle in which such a step is cut. -/

namespace Sys2Proof.Machine

/-- `fetchDecode()` (R366, R370): the queue of the fetched opcode, or the fault. -/
def fetchDecode (s : State) : State :=
  let t := fetchOpcode s
  if isIllegalOpcode (fetchedOpcode s) then
    { t with eng := { t.eng with queue := [], qi := 0, fault := some (fetchedOpcode s, s.regs.pc) } }
  else { t with eng := { t.eng with queue := opcodeMicroops (fetchedOpcode s), qi := 0 } }

/-- The micro-op part of the CPU phase of a running CPU (R365). -/
def queuePhase (s : State) : State :=
  match s.eng.queue[s.eng.qi]? with
  | some m => runMicro m s
  | none => s

/-- The queue is exhausted (R52). -/
def exhausted (s : State) : Bool := decide (s.eng.queue.length ≤ s.eng.qi)

/-- `cpuPhase()` (R365). -/
def cpuPhase (s : State) : State :=
  match s.eng.run with
  | .running =>
    let t := queuePhase s
    if t.eng.run = .running ∧ exhausted t = true then fetchDecode (dispatchCheck t) else t
  | .halted =>
    if pending s = 0 then s else fetchDecode (dispatchCheck { s with eng := { s.eng with run := .running } })
  | .stopped => s

/-- The end of a bus cycle after its CPU phase (R362): a refused write or a fault ends it at once (R131, R370). -/
def endCycle (s : State) : Host.Outcome State Fault Refusal :=
  if s.vbkRefused then .refused .vramBank1
  else
    match s.eng.fault with
    | some (op, addr) => .fault (.illegalOpcode op addr s)
    | none => .next (cycleTail s)

/-- `stepBusCycle()` (R361, R362), from the beginning of a bus cycle to its end. -/
def busCycle (s : State) : Host.Outcome State Fault Refusal :=
  match s.eng.fault with
  | some (op, addr) => .fault (.illegalOpcode op addr s)
  | none => if s.vbkRefused then .refused .vramBank1 else endCycle (cpuPhase (cycleHead s))

/-- `n` bus cycles, stopping at the first fault or refusal. -/
def busCycles : Nat → Host.Outcome State Fault Refusal → Host.Outcome State Fault Refusal
  | 0, o => o
  | n + 1, .next s => busCycles n (busCycle s)
  | _ + 1, .fault f => .fault f
  | _ + 1, .refused r => .refused r

/-- The rest of the bus cycle in which the instruction-grained step is cut (log 1): for a running CPU the dispatch check and the
fetch, then the tail. -/
def closeCycle (s : State) : Host.Outcome State Fault Refusal :=
  match s.eng.run with
  | .running => endCycle (if s.eng.fault.isNone && !s.vbkRefused then fetchDecode (dispatchCheck s) else s)
  | .halted => endCycle s
  | .stopped => endCycle s

/-- An instruction-grained outcome, completed to the end of its bus cycle. -/
def closeOutcome : Host.Outcome State Fault Refusal → Host.Outcome State Fault Refusal
  | .next s => closeCycle s
  | .fault f => .fault f
  | .refused r => .refused r

end Sys2Proof.Machine
end

