-- ==== Sys2Proof/Machine/Loader.lean ====
section
/-! DEFINITION. Loading a cartridge (R201 to R211) and the state right after reset for any parameters and draws (R661). Loading
happens outside any step. -/

namespace Sys2Proof.Machine

/-- The status of a load (R202). -/
inductive LoadStatus where
  | romFileNotReadable | romParseError | romTooBig | romSizeMismatch | romUnsupportedMbc | ramSizeUnsupported | loaded
deriving DecidableEq, Repr

/-- The bank controllers of R209, by variant. -/
inductive Variant where
  | none | mbc1 | mbc2 | mbc3 | mbc5
deriving DecidableEq, Repr

/-- A row of the cartridge-type table (R209). -/
structure CartType where
  code : Byte
  variant : Variant
  ramBearing : Bool
  battery : Bool
  clock : Bool
deriving DecidableEq, Repr

/-- The cartridge-type table, every column in the spec's order; MBC2's RAM is internal (R209). -/
def cartTypes : List CartType :=
  [⟨0x00, .none, false, false, false⟩, ⟨0x01, .mbc1, false, false, false⟩, ⟨0x02, .mbc1, true, false, false⟩,
   ⟨0x03, .mbc1, true, true, false⟩, ⟨0x05, .mbc2, false, false, false⟩, ⟨0x06, .mbc2, false, true, false⟩,
   ⟨0x08, .none, true, false, false⟩, ⟨0x09, .none, true, true, false⟩, ⟨0x0F, .mbc3, false, true, true⟩,
   ⟨0x10, .mbc3, true, true, true⟩, ⟨0x11, .mbc3, false, false, false⟩, ⟨0x12, .mbc3, true, false, false⟩,
   ⟨0x13, .mbc3, true, true, false⟩, ⟨0x19, .mbc5, false, false, false⟩, ⟨0x1A, .mbc5, true, false, false⟩,
   ⟨0x1B, .mbc5, true, true, false⟩, ⟨0x1C, .mbc5, false, false, false⟩, ⟨0x1D, .mbc5, true, false, false⟩,
   ⟨0x1E, .mbc5, true, true, false⟩]

/-- The row of a cartridge-type byte, if it is recognised (R209). -/
def cartType (code : Byte) : Option CartType := cartTypes.find? fun t => t.code == code

/-- The architecture's maximum ROM size, 4 MiB (R203). -/
def maxRomSize : Nat := 4194304

/-- The ROM size a size code declares (R205). -/
def declaredRomSize (code : Byte) : Option Nat := if code.toNat ≤ 7 then some (32768 * 2 ^ code.toNat) else none

/-- The RAM size a size code declares (R207). -/
def declaredRamSize (code : Byte) : Option Nat :=
  if code = 0x00 then some 0
  else if code = 0x01 then some 2048
  else if code = 0x02 then some 8192
  else if code = 0x03 then some 32768
  else if code = 0x04 then some 131072
  else if code = 0x05 then some 65536
  else none

/-- What loading and reset are given (R9, R661): the stream, or none if it cannot be read; `STRICT_SIZE`; the parameters of the
run; `ROM_FILL` and `CART_RAM_INIT` by offset; the RTC of a battery file; the draws `RESET_MEM` and `RESET_SYS`; and the CLOCK value
at reset with the host inputs of the bus cycles from the first one on (R690). -/
structure LoadRequest where
  stream : Option (List Byte)
  strictSize : Bool
  params : Params
  romFill : List Host.Cell
  cartRamInit : List Host.Cell
  savedClock : Option Rtc
  wram : List Host.Cell
  vram : List Host.Cell
  oam : List Host.Cell
  hram : List Host.Cell
  sys : Word
  now : Nat
  inputs : List HostInput
deriving DecidableEq, Repr

/-- A header byte (R201). -/
def headerByte (image : List Byte) (offset : Nat) : Byte := image.getD offset 0

/-- The checks of R204, in their order, the first failing one giving the status. -/
def loadStatus (q : LoadRequest) : LoadStatus :=
  match q.stream with
  | none => .romFileNotReadable
  | some image =>
    if maxRomSize < image.length then .romTooBig
    else if image.length < 0x0150 then .romParseError
    else
      match declaredRomSize (headerByte image 0x0148) with
      | none => .romParseError
      | some declared =>
        if q.strictSize = true ∧ image.length ≠ declared then .romSizeMismatch
        else if (cartType (headerByte image 0x0147)).isNone then .romUnsupportedMbc
        else if (declaredRamSize (headerByte image 0x0149)).isNone then .ramSizeUnsupported
        else .loaded

/-- `romBankCount` (R205). -/
def romBanks (declared length : Nat) : Nat := (max declared length + 0x3FFF) / 0x4000

/-- `ramSize` (R208): MBC2 has no external array, a RAM-bearing type with RAM code 0x00 gets one bank. -/
def ramSizeOf (t : CartType) (declared : Nat) : Nat :=
  match t.variant with
  | .mbc2 => 0
  | .none => if t.ramBearing = true ∧ declared = 0 then 8192 else declared
  | .mbc1 => if t.ramBearing = true ∧ declared = 0 then 8192 else declared
  | .mbc3 => if t.ramBearing = true ∧ declared = 0 then 8192 else declared
  | .mbc5 => if t.ramBearing = true ∧ declared = 0 then 8192 else declared

/-- MBC30: more than 128 ROM banks or RAM size code 0x05 (R210). -/
def isMbc30 (banks : Nat) (ramCode : Byte) : Bool := decide (128 < banks) || ramCode == 0x05

/-- The RTC at reset: that of a battery file, else the values of R281. -/
def clockAtReset (q : LoadRequest) : Rtc := q.savedClock.getD (Rtc.init q.now)

/-- The controller at reset (R210, R221, R230, R240, R255). An MBC2 cell holds four bits. -/
def mbcOf (q : LoadRequest) (t : CartType) (banks : Nat) (ramCode : Byte) : Mbc :=
  match t.variant with
  | .none => .none
  | .mbc1 => .mbc1 Mbc1.init
  | .mbc2 => .mbc2 (Mbc2.init (Memory.ofCells 512 (q.cartRamInit.map fun c => (c.1, c.2 &&& 0x0F))))
  | .mbc3 =>
    .mbc3 (Mbc3.init (isMbc30 banks ramCode) (powerOfTwoAtLeast banks - 1) (if t.clock then some (clockAtReset q) else none))
  | .mbc5 => .mbc5 Mbc5.init

/-- The ROM array (R203): the image, then `ROM_FILL` up to 4 MiB. -/
def romArray (image : List Byte) (fill : List Host.Cell) : Memory :=
  (fill.foldl (fun m c => if image.length ≤ c.1 ∧ c.1 < maxRomSize then m.write c.1 c.2 else m) (Memory.ofBytes 0 image))

/-- The cartridge of an image whose header is good (R203 to R211). -/
def cartOf (q : LoadRequest) (image : List Byte) (t : CartType) (declaredRom declaredRam : Nat) : Cart :=
  { rom := romArray image q.romFill
    ram := Memory.ofCells (ramSizeOf t declaredRam) q.cartRamInit
    romBankCount := romBanks declaredRom image.length
    ramSize := ramSizeOf t declaredRam
    hasBattery := t.battery
    mbc := mbcOf q t (romBanks declaredRom image.length) (headerByte image 0x0149) }

/-- The cartridge of a load whose status is Loaded. -/
def loadCart (q : LoadRequest) : Option Cart :=
  if loadStatus q = .loaded then
    match q.stream with
    | none => none
    | some image =>
      match cartType (headerByte image 0x0147), declaredRomSize (headerByte image 0x0148),
        declaredRamSize (headerByte image 0x0149) with
      | some t, some rom, some ram => some (cartOf q image t rom ram)
      | _, _, _ => none
  else none

/-- The size of work RAM (R65). -/
def wramSize (cgb : Bool) : Nat := if cgb then 32768 else 8192

/-- The state right after reset with a cartridge (R661). `RESET_SYS` has bits 1:0 equal to 0 (R56). -/
def bootState (q : LoadRequest) (c : Cart) : State :=
  { regs := Regs.reset q.params.cgb
    eng := Engine.reset
    intr := Intr.reset
    timer := Timer.reset (q.sys &&& 0xFFFC)
    joy := Joypad.reset
    dma := Dma.reset
    mem :=
      { wram := Memory.ofCells (wramSize q.params.cgb) q.wram
        vram := Memory.ofCells 8192 q.vram
        oam := Memory.ofCells 160 q.oam
        hram := Memory.ofCells 127 q.hram
        svbk := 0 }
    cart := c
    env := Env.reset q.now q.inputs
    params := q.params
    vbkRefused := false }

/-- Load and reset (R202, R661): only the status Loaded yields a machine. -/
def load (q : LoadRequest) : LoadStatus × Option State := (loadStatus q, (loadCart q).map (bootState q))

/-- The title of the header: 16 bytes from 0x0134, NUL-padded (R201). It has no effect. -/
def title (image : List Byte) : List Byte := ((image.drop 0x0134).take 16).takeWhile fun b => b != 0

/-- The raw dump a battery save writes (R211): the external array, or the 512 cells of MBC2. What follows it for an MBC3 with a clock
is the RTC state, whose byte layout the spec leaves open: `Mbc.clock` is that state. -/
def batteryDump (c : Cart) : List Byte :=
  match c.mbc with
  | .mbc2 m => Memory.dump m.cells 0 512
  | .none => Memory.dump c.ram 0 c.ramSize
  | .mbc1 _ => Memory.dump c.ram 0 c.ramSize
  | .mbc3 _ => Memory.dump c.ram 0 c.ramSize
  | .mbc5 _ => Memory.dump c.ram 0 c.ramSize

end Sys2Proof.Machine
end

