-- ==== Sys2Proof/Safety.lean ====
section
/-! DEFINITION. The terms the claims are stated in: the storage cell behind an address, the addresses whose contents time alone does not
change, the addresses a write can affect, the part of the state an instruction leaves to the other agents, and the invariant of
the states that can occur. -/

namespace Sys2Proof.Machine

/-! ## What is behind an address -/

/-- A cell of storage: its array and its index there (R65). -/
inductive StorageCell where
  | vram (i : Nat)
  | wram (i : Nat)
  | oam (i : Nat)
  | hram (i : Nat)
  | ext (i : Nat)
  | mbc2 (i : Nat)
  | ie
deriving DecidableEq, Repr

/-- The storage cell a write to this address stores to, if it is one (R126, R130, R132, R215). -/
def cellAt (s : State) (a : Word) : Option StorageCell :=
  match region a with
  | .vram => some (.vram (vramIndex a))
  | .wram => some (.wram (wramOffset s a))
  | .echo => some (.wram (wramOffset s (echoBase a)))
  | .oam => some (.oam (oamIndex a))
  | .hram => some (.hram (hramIndex a))
  | .ie => some .ie
  | .cartRam =>
    match s.cart.ramTarget (ramIndex a) with
    | .ext i => some (.ext i)
    | .cell i => some (.mbc2 i)
    | .closed => none
    | .clock _ => none
  | .rom => none
  | .unusable => none
  | .io => none

/-- The bits of a byte that its cell holds: MBC2RAM holds the low nibble and reads the high one as ones (R233). -/
def keptByte (c : StorageCell) (v : Byte) : Byte :=
  match c with
  | .mbc2 _ => 0xF0 ||| v
  | .vram _ => v
  | .wram _ => v
  | .oam _ => v
  | .hram _ => v
  | .ext _ => v
  | .ie => v

/-- What an access to the RAM window reaches is an RTC register (R246). -/
def clockAt (s : State) (a : Word) : Bool :=
  match s.cart.ramTarget (ramIndex a) with
  | .clock _ => true
  | .closed => false
  | .ext _ => false
  | .cell _ => false

/-- An I/O register that bus cycles in which the CPU does nothing leave alone (R69). -/
def IoReg.isSteady : IoReg → Bool
  | .tma => true
  | .tac => true
  | .dma => true
  | .svbk => true
  | .p1 => false
  | .div => false
  | .tima => false
  | .intFlags => false
  | .vbk => false
  | .collaborator => false

/-- What the address reads does not change while the CPU does nothing: no I/O register that the timer, the devices or a collaborator
change, no RTC register, and no OAM byte while a DMA transfer is active. -/
def steady (s : State) (a : Word) : Bool :=
  match region a with
  | .rom => true
  | .vram => true
  | .wram => true
  | .echo => true
  | .unusable => true
  | .hram => true
  | .ie => true
  | .oam => !s.dma.active
  | .cartRam => !clockAt s a
  | .io => (ioReg s.params.cgb a).isSteady

/-- The switchable half of work RAM and its echo (R130, R132). -/
def inSwitchableWram (a : Word) : Bool :=
  (decide (0xD000 ≤ a.toNat) && decide (a.toNat < 0xE000)) || (decide (0xF000 ≤ a.toNat) && decide (a.toNat < 0xFE00))

/-- A write to `a` may change what `b` reads: `b` is the same storage cell; or `a` is a bank register and `b` lies in a window it
switches; or `a` is an RTC register and `b` lies in the RAM window; or `a` is an I/O register and `b` is that register or what it
controls (R126, R127, R139). -/
def reaches (s : State) (a b : Word) : Bool :=
  match region a with
  | .rom => region b == .rom || region b == .cartRam
  | .unusable => false
  | .io =>
    match ioReg s.params.cgb a with
    | .p1 => b == a
    | .div => b == a
    | .tima => b == a
    | .tma => b == a
    | .tac => b == a
    | .intFlags => b == a
    | .dma => b == a || region b == .oam
    | .svbk => b == a || inSwitchableWram b
    | .vbk => readsCollaborator s.params.cgb b
    | .collaborator => readsCollaborator s.params.cgb b
  | .cartRam =>
    if clockAt s a then region b == .cartRam else (cellAt s a).isSome && cellAt s b == cellAt s a
  | .vram => cellAt s b == cellAt s a
  | .wram => cellAt s b == cellAt s a
  | .echo => cellAt s b == cellAt s a
  | .oam => cellAt s b == cellAt s a
  | .hram => cellAt s b == cellAt s a
  | .ie => cellAt s b == cellAt s a

/-! ## What an instruction leaves alone -/

/-- `t` is `u` but for the register file, the operand latches and the queue, which is exhausted (R52). So IME, the run state, the HALT bug
flag, the interrupt registers, the timer, the joypad, the DMA engine, all storage, the cartridge, the host's side and the
parameters are those of `u`. -/
def AgreesOutsideRegs (t u : State) : Prop :=
  t = { u with
    regs := t.regs
    eng := { u.eng with ctx := t.eng.ctx, queue := t.eng.queue, qi := t.eng.qi } } ∧ exhausted t = true

/-- The outcome is a next state with the registers `r`, otherwise that of `u`; no address that was steady in `s` reads otherwise. -/
def Completes (o : Host.Outcome State Fault Refusal) (r : Regs) (u s : State) : Prop :=
  ∃ t, o = .next t ∧ t.regs = r ∧ AgreesOutsideRegs t u ∧ ∀ b, steady s b = true → read8 t b = read8 s b

/-- As `Completes`, for an instruction that stores `v` at `a`: the cell there holds `v`, and no steady address that the write does not
reach reads otherwise. -/
def CompletesStoring (o : Host.Outcome State Fault Refusal) (r : Regs) (u s : State) (a : Word) (v : Byte) : Prop :=
  ∃ t, o = .next t ∧ t.regs = r ∧ AgreesOutsideRegs t u ∧
    (∀ c, cellAt s a = some c → steady s a = true → read8 t a = keptByte c v) ∧
    ∀ b, steady s b = true → reaches s a b = false → read8 t b = read8 s b

/-- As `Completes`, for an instruction that stores twice: `v1` at `a1` in a state with the mapping of `s`, then `v2` at `a2` in a state
with the mapping of `s2`. The cell at `a2` holds `v2`, the cell at `a1` holds `v1` unless the second write reaches it, and no steady
address that neither write reaches reads otherwise. -/
def CompletesStoringTwice (o : Host.Outcome State Fault Refusal) (r : Regs) (u s : State) (a1 : Word) (v1 : Byte) (s2 : State)
    (a2 : Word) (v2 : Byte) : Prop :=
  ∃ t, o = .next t ∧ t.regs = r ∧ AgreesOutsideRegs t u ∧
    (∀ c, cellAt s2 a2 = some c → steady s2 a2 = true → read8 t a2 = keptByte c v2) ∧
    (∀ c, cellAt s a1 = some c → steady s a1 = true → reaches s2 a2 a1 = false → read8 t a1 = keptByte c v1) ∧
    ∀ b, steady s b = true → reaches s a1 b = false → reaches s2 a2 b = false → read8 t b = read8 s b

/-! ## The external RAM window -/

/-- The window address `a` is offset `o` of the external RAM array (R215): inside the array a read gives that byte and a write stores it;
beyond it a read gives 0xFF and a write does nothing. -/
def RamWindowAt (s : State) (a : Word) (o : Nat) : Prop :=
  read8 s a = (if o < s.cart.ramSize then s.cart.ram.read o else 0xFF) ∧
    ∀ v, write8 s a v = if o < s.cart.ramSize then { s with cart := { s.cart with ram := s.cart.ram.write o v } } else s

/-- The window address is closed (R215): a read gives 0xFF, a write does nothing. -/
def RamWindowClosed (s : State) (a : Word) : Prop := read8 s a = 0xFF ∧ ∀ v, write8 s a v = s

/-! ## Field codes (R322, R323) -/

/-- The 3-bit code of a register (R322). -/
def regCode : Reg8 → Byte
  | .b => 0
  | .c => 1
  | .d => 2
  | .e => 3
  | .h => 4
  | .l => 5
  | .a => 7

/-- The 2-bit code of a pair of the class BC, DE, HL, SP (R322). -/
def pairCode : Pair → Byte
  | .bc => 0
  | .de => 1
  | .hl => 2
  | .sp => 3

/-- The 2-bit code of a pair of the class BC, DE, HL, AF (R322). -/
def qpairCode : QPair → Byte
  | .bc => 0
  | .de => 1
  | .hl => 2
  | .af => 3

/-- The 2-bit code of a condition (R323). -/
def condCode : Cond → Byte
  | .nz => 0
  | .z => 1
  | .nc => 2
  | .c => 3

/-- The 3-bit code of an ALU function (R322). -/
def aluCode : AluOp → Byte
  | .add => 0
  | .adc => 1
  | .sub => 2
  | .sbc => 3
  | .and => 4
  | .xor => 5
  | .or => 6
  | .cp => 7

/-- The 3-bit code of a CB rotate or shift (R322). -/
def rotCode : RotOp → Byte
  | .rlc => 0
  | .rrc => 1
  | .rl => 2
  | .rr => 3
  | .sla => 4
  | .sra => 5
  | .swap => 6
  | .srl => 7

/-- A 3-bit number as a byte (R322). -/
def bitCode (b : Fin 8) : Byte := BitVec.ofNat 8 b.val

/-! ## Cycle counts (R327, R330)

Each entry of R327 is (length, bus cycles taken, bus cycles not taken). STOP stands with length 1, the length of its row; the prefix and the
illegal opcodes have no count of their own and stand with 0. -/

/-- Row 0x of R327. -/
def cycleRow0 : List (Nat × Nat × Nat) :=
  [(1, 1, 1), (3, 3, 3), (1, 2, 2), (1, 2, 2), (1, 1, 1), (1, 1, 1), (2, 2, 2), (1, 1, 1),
   (3, 5, 5), (1, 2, 2), (1, 2, 2), (1, 2, 2), (1, 1, 1), (1, 1, 1), (2, 2, 2), (1, 1, 1)]

/-- Row 1x of R327. -/
def cycleRow1 : List (Nat × Nat × Nat) :=
  [(1, 1, 1), (3, 3, 3), (1, 2, 2), (1, 2, 2), (1, 1, 1), (1, 1, 1), (2, 2, 2), (1, 1, 1),
   (2, 3, 3), (1, 2, 2), (1, 2, 2), (1, 2, 2), (1, 1, 1), (1, 1, 1), (2, 2, 2), (1, 1, 1)]

/-- Row 2x of R327. -/
def cycleRow2 : List (Nat × Nat × Nat) :=
  [(2, 3, 2), (3, 3, 3), (1, 2, 2), (1, 2, 2), (1, 1, 1), (1, 1, 1), (2, 2, 2), (1, 1, 1),
   (2, 3, 2), (1, 2, 2), (1, 2, 2), (1, 2, 2), (1, 1, 1), (1, 1, 1), (2, 2, 2), (1, 1, 1)]

/-- Row 3x of R327. -/
def cycleRow3 : List (Nat × Nat × Nat) :=
  [(2, 3, 2), (3, 3, 3), (1, 2, 2), (1, 2, 2), (1, 3, 3), (1, 3, 3), (2, 3, 3), (1, 1, 1),
   (2, 3, 2), (1, 2, 2), (1, 2, 2), (1, 2, 2), (1, 1, 1), (1, 1, 1), (2, 2, 2), (1, 1, 1)]

/-- Row 4x of R327. -/
def cycleRow4 : List (Nat × Nat × Nat) :=
  [(1, 1, 1), (1, 1, 1), (1, 1, 1), (1, 1, 1), (1, 1, 1), (1, 1, 1), (1, 2, 2), (1, 1, 1),
   (1, 1, 1), (1, 1, 1), (1, 1, 1), (1, 1, 1), (1, 1, 1), (1, 1, 1), (1, 2, 2), (1, 1, 1)]

/-- Row 5x of R327. -/
def cycleRow5 : List (Nat × Nat × Nat) :=
  [(1, 1, 1), (1, 1, 1), (1, 1, 1), (1, 1, 1), (1, 1, 1), (1, 1, 1), (1, 2, 2), (1, 1, 1),
   (1, 1, 1), (1, 1, 1), (1, 1, 1), (1, 1, 1), (1, 1, 1), (1, 1, 1), (1, 2, 2), (1, 1, 1)]

/-- Row 6x of R327. -/
def cycleRow6 : List (Nat × Nat × Nat) :=
  [(1, 1, 1), (1, 1, 1), (1, 1, 1), (1, 1, 1), (1, 1, 1), (1, 1, 1), (1, 2, 2), (1, 1, 1),
   (1, 1, 1), (1, 1, 1), (1, 1, 1), (1, 1, 1), (1, 1, 1), (1, 1, 1), (1, 2, 2), (1, 1, 1)]

/-- Row 7x of R327. -/
def cycleRow7 : List (Nat × Nat × Nat) :=
  [(1, 2, 2), (1, 2, 2), (1, 2, 2), (1, 2, 2), (1, 2, 2), (1, 2, 2), (1, 1, 1), (1, 2, 2),
   (1, 1, 1), (1, 1, 1), (1, 1, 1), (1, 1, 1), (1, 1, 1), (1, 1, 1), (1, 2, 2), (1, 1, 1)]

/-- Row 8x of R327. -/
def cycleRow8 : List (Nat × Nat × Nat) :=
  [(1, 1, 1), (1, 1, 1), (1, 1, 1), (1, 1, 1), (1, 1, 1), (1, 1, 1), (1, 2, 2), (1, 1, 1),
   (1, 1, 1), (1, 1, 1), (1, 1, 1), (1, 1, 1), (1, 1, 1), (1, 1, 1), (1, 2, 2), (1, 1, 1)]

/-- Row 9x of R327. -/
def cycleRow9 : List (Nat × Nat × Nat) :=
  [(1, 1, 1), (1, 1, 1), (1, 1, 1), (1, 1, 1), (1, 1, 1), (1, 1, 1), (1, 2, 2), (1, 1, 1),
   (1, 1, 1), (1, 1, 1), (1, 1, 1), (1, 1, 1), (1, 1, 1), (1, 1, 1), (1, 2, 2), (1, 1, 1)]

/-- Row Ax of R327. -/
def cycleRowA : List (Nat × Nat × Nat) :=
  [(1, 1, 1), (1, 1, 1), (1, 1, 1), (1, 1, 1), (1, 1, 1), (1, 1, 1), (1, 2, 2), (1, 1, 1),
   (1, 1, 1), (1, 1, 1), (1, 1, 1), (1, 1, 1), (1, 1, 1), (1, 1, 1), (1, 2, 2), (1, 1, 1)]

/-- Row Bx of R327. -/
def cycleRowB : List (Nat × Nat × Nat) :=
  [(1, 1, 1), (1, 1, 1), (1, 1, 1), (1, 1, 1), (1, 1, 1), (1, 1, 1), (1, 2, 2), (1, 1, 1),
   (1, 1, 1), (1, 1, 1), (1, 1, 1), (1, 1, 1), (1, 1, 1), (1, 1, 1), (1, 2, 2), (1, 1, 1)]

/-- Row Cx of R327. -/
def cycleRowC : List (Nat × Nat × Nat) :=
  [(1, 5, 2), (1, 3, 3), (3, 4, 3), (3, 4, 4), (3, 6, 3), (1, 4, 4), (2, 2, 2), (1, 4, 4),
   (1, 5, 2), (1, 4, 4), (3, 4, 3), (2, 0, 0), (3, 6, 3), (3, 6, 6), (2, 2, 2), (1, 4, 4)]

/-- Row Dx of R327. -/
def cycleRowD : List (Nat × Nat × Nat) :=
  [(1, 5, 2), (1, 3, 3), (3, 4, 3), (1, 0, 0), (3, 6, 3), (1, 4, 4), (2, 2, 2), (1, 4, 4),
   (1, 5, 2), (1, 4, 4), (3, 4, 3), (1, 0, 0), (3, 6, 3), (1, 0, 0), (2, 2, 2), (1, 4, 4)]

/-- Row Ex of R327. -/
def cycleRowE : List (Nat × Nat × Nat) :=
  [(2, 3, 3), (1, 3, 3), (1, 2, 2), (1, 0, 0), (1, 0, 0), (1, 4, 4), (2, 2, 2), (1, 4, 4),
   (2, 4, 4), (1, 1, 1), (3, 4, 4), (1, 0, 0), (1, 0, 0), (1, 0, 0), (2, 2, 2), (1, 4, 4)]

/-- Row Fx of R327. -/
def cycleRowF : List (Nat × Nat × Nat) :=
  [(2, 3, 3), (1, 3, 3), (1, 2, 2), (1, 1, 1), (1, 0, 0), (1, 4, 4), (2, 2, 2), (1, 4, 4),
   (2, 3, 3), (1, 2, 2), (3, 4, 4), (1, 1, 1), (1, 0, 0), (1, 0, 0), (2, 2, 2), (1, 4, 4)]

/-- The table of R327. -/
def cycleTable : List (List (Nat × Nat × Nat)) :=
  [cycleRow0, cycleRow1, cycleRow2, cycleRow3, cycleRow4, cycleRow5, cycleRow6, cycleRow7,
   cycleRow8, cycleRow9, cycleRowA, cycleRowB, cycleRowC, cycleRowD, cycleRowE, cycleRowF]

/-- The entry of R327 for an opcode byte. -/
def cycleEntry (op : Byte) : Nat × Nat × Nat := (cycleTable.getD (op.toNat / 16) []).getD (op.toNat % 16) (0, 0, 0)

/-- The condition in the field `op[4:3]` of a conditional opcode (R322, R323). -/
def condOfOpcode (op : Byte) : Cond :=
  match op.toNat / 8 % 4 with
  | 0 => .nz
  | 1 => .z
  | 2 => .nc
  | _ => .c

/-- The length and the number of bus cycles of the instruction with these bytes where F is `f` (R327, R330). -/
def lengthAndCycles (bytes : List Byte) (f : Byte) : Nat × Nat :=
  match bytes with
  | 0xCB :: cb :: _ => (2, if cb &&& 7 ≠ 6 then 2 else if cb &&& 0xC0 = 0x40 then 3 else 4)
  | op :: _ => ((cycleEntry op).1, if condHolds (condOfOpcode op) f then (cycleEntry op).2.1 else (cycleEntry op).2.2)
  | [] => (0, 0)

/-! ## The invariant -/

/-- F's low nibble is zero (R43). -/
def Regs.ok (r : Regs) : Bool := r.f &&& 0x0F == 0

/-- The queue is exhausted, as it is between two instructions, and has at most six entries (R52, R368); a set HALT bug means a running CPU
that cannot dispatch (R607, R611); no fault is set (R53). -/
def Engine.ok (e : Engine) : Bool :=
  decide (e.qi = e.queue.length) && decide (e.queue.length ≤ 6) &&
    (!e.haltBug || (e.run == .running && e.ime != .enabled)) && e.fault.isNone

/-- SYS counts in fours (R56); TIMA reads 0x00 while a reload is due (R622). -/
def Timer.ok (t : Timer) : Bool := t.sys &&& 3 == 0 && (!t.reloadPending || t.tima == 0)

/-- P1sel has bits 5 and 4 only (R62). -/
def Joypad.ok (j : Joypad) : Bool := j.sel &&& 0xCF == 0

/-- The DMA index is in range, and an active transfer reads from `dmaReg × 0x100` and has bytes left (R64, R141, R142). -/
def Dma.ok (d : Dma) : Bool :=
  decide (d.idx ≤ 160) && (!d.active || (decide (d.idx < 160) && d.src == word d.reg 0)) && (d.idx == 0 || d.started)

/-- The storage arrays are in canonical form and of their sizes; SVBK exists on CGB only (R65). -/
def Storage.ok (m : Storage) (cgb : Bool) : Bool :=
  m.wram.wf (wramSize cgb) && m.vram.wf 8192 && m.oam.wf 160 && m.hram.wf 127 && (cgb || m.svbk == 0)

/-- The controller's registers: MBC1 and MBC2 never hold ROM bank 0 (R222, R231), MBC2's cells hold four bits (R230), MBC3's effective
bank is its register masked and its register has the width of its kind (R240, R242). -/
def Mbc.ok (b : Mbc) (romMask : Nat) : Bool :=
  match b with
  | .none => true
  | .mbc1 m => m.romReg != 0
  | .mbc2 m => m.romReg != 0 && m.cells.wf 512 && m.cells.all (fun c => c.2 &&& 0xF0 == 0)
  | .mbc3 m => m.romBank == m.romReg &&& BitVec.ofNat 8 romMask && (m.wide || m.romReg &&& 0x80 == 0) && !m.mode
  | .mbc5 _ => true

/-- ROM has 2 to 256 banks and both arrays are in canonical form (R65, R203, R205, R207). -/
def Cart.ok (c : Cart) : Bool :=
  decide (2 ≤ c.romBankCount) && decide (c.romBankCount ≤ 256) && decide (c.ramSize ≤ 131072) && c.rom.wf maxRomSize &&
    c.ram.wf c.ramSize && c.mbc.ok c.romMask

/-- The states that can occur between steps. -/
def State.ok (s : State) : Bool :=
  s.regs.ok && s.eng.ok && s.timer.ok && s.joy.ok && s.dma.ok && s.mem.ok s.params.cgb && s.cart.ok && !s.vbkRefused

end Sys2Proof.Machine
end

