-- ==== Sys2Proof/Certificates/Slice0/Obligations.lean ====
section
/-! DEFINITION. The statements for the provers. In every statement about an instruction, `s` is a state in which all its bytes have been
read, as the step hands it to `exec` (log 2); `tick` is the rest of one bus cycle and the beginning of the next, so the number of
ticks is the number of bus cycles the instruction takes after the one that read its last byte. `Completes` and its kind say that `exec`
answers a next state, and what all of it is: the registers it lists, otherwise the state it names (Safety.lean).

The hypothesis `s.vbkRefused = false` rules out the model's own latch only (log 12): a state with it has no next step. -/

section

open Sys2Proof Sys2Proof.Machine

/-! ## 8-bit loads -/

/-- R401, R402: LD r,r' copies a register in one bus cycle; LD r,n puts the immediate byte into the register, one bus cycle after the one
that read it. Nothing else changes, no flag either. -/
def Obligations.LoadRegister : Prop :=
  ∀ (d : Reg8) (s : State), s.vbkRefused = false →
    (∀ r : Reg8, encode (Instr.ldReg d r) = [0x40 ||| (regCode d <<< 3) ||| regCode r] ∧
      Completes (exec (Instr.ldReg d r) s) (s.regs.set d (s.regs.get r)) (tick s) s) ∧
    ∀ n : Byte, encode (Instr.ldImm d n) = [0x06 ||| (regCode d <<< 3), n] ∧
      Completes (exec (Instr.ldImm d n) s) (s.regs.set d n) (tick s) s

/-- R403, R406, R407, R410, R412, R414: a load takes the byte that its address reads in the bus cycle of the access; the registers
but the destination, and every flag, are unchanged. -/
def Obligations.LoadFromMemory : Prop :=
  ∀ (s : State), s.vbkRefused = false →
    let loads := fun (i : Instr) (r : Reg8) (a : Word) =>
      Completes (exec i s) (s.regs.set r (read8 (tick s) a)) (tick (memRead (tick s) a)) s
    (∀ r : Reg8, encode (Instr.ldFromHl r) = [0x46 ||| (regCode r <<< 3)] ∧
      loads (Instr.ldFromHl r) r (word s.regs.h s.regs.l)) ∧
    (encode .LD_A_mBC = [0x0A] ∧ loads .LD_A_mBC .a (word s.regs.b s.regs.c)) ∧
    (encode .LD_A_mDE = [0x1A] ∧ loads .LD_A_mDE .a (word s.regs.d s.regs.e)) ∧
    (encode .LD_A_mC = [0xF2] ∧ loads .LD_A_mC .a (highPage s.regs.c)) ∧
    (∀ nn : Word, encode (.LD_A_mnn nn) = [0xFA, lowByte nn, highByte nn] ∧ loads (.LD_A_mnn nn) .a nn) ∧
    (∀ n : Byte, encode (.LDH_A_mn n) = [0xF0, n] ∧ loads (.LDH_A_mn n) .a (highPage n))

/-- R404, R405, R408, R409, R411, R413, R415: a store writes its byte at its address in the bus cycle of the access; no register
and no flag changes, and no other steady byte. A write that would select VRAM bank 1 is refused instead (R131). -/
def Obligations.StoreToMemory : Prop :=
  ∀ (s : State), s.vbkRefused = false →
    let stores := fun (i : Instr) (a : Word) (v : Byte) =>
      if selectsVramBank1 s.params.cgb a v then exec i s = .refused .vramBank1
      else CompletesStoring (exec i s) s.regs (tick (memWrite (tick s) a v)) s a v
    (∀ r : Reg8, encode (Instr.ldToHl r) = [0x70 ||| regCode r] ∧
      stores (Instr.ldToHl r) (word s.regs.h s.regs.l) (s.regs.get r)) ∧
    (∀ n : Byte, encode (.LD_mHL_n n) = [0x36, n] ∧ stores (.LD_mHL_n n) (word s.regs.h s.regs.l) n) ∧
    (encode .LD_mBC_A = [0x02] ∧ stores .LD_mBC_A (word s.regs.b s.regs.c) s.regs.a) ∧
    (encode .LD_mDE_A = [0x12] ∧ stores .LD_mDE_A (word s.regs.d s.regs.e) s.regs.a) ∧
    (encode .LD_mC_A = [0xE2] ∧ stores .LD_mC_A (highPage s.regs.c) s.regs.a) ∧
    (∀ nn : Word, encode (.LD_mnn_A nn) = [0xEA, lowByte nn, highByte nn] ∧ stores (.LD_mnn_A nn) nn s.regs.a) ∧
    (∀ n : Byte, encode (.LDH_mn_A n) = [0xE0, n] ∧ stores (.LDH_mn_A n) (highPage n) s.regs.a)

/-- R416 to R419: the post-increment and post-decrement forms access the address that HL held before, and move HL by one modulo
2^16 without a flag. -/
def Obligations.LoadStoreHlStep : Prop :=
  ∀ (s : State), s.vbkRefused = false →
    let hl := word s.regs.h s.regs.l
    encode .LD_A_mHLinc = [0x2A] ∧ encode .LD_A_mHLdec = [0x3A] ∧ encode .LD_mHLinc_A = [0x22] ∧ encode .LD_mHLdec_A = [0x32] ∧
    Completes (exec .LD_A_mHLinc s) { s.regs.setPair .hl (hl + 1) with a := read8 (tick s) hl }
      (tick (memRead (tick s) hl)) s ∧
    Completes (exec .LD_A_mHLdec s) { s.regs.setPair .hl (hl - 1) with a := read8 (tick s) hl }
      (tick (memRead (tick s) hl)) s ∧
    (if selectsVramBank1 s.params.cgb hl s.regs.a then
      exec .LD_mHLinc_A s = .refused .vramBank1 ∧ exec .LD_mHLdec_A s = .refused .vramBank1
    else
      CompletesStoring (exec .LD_mHLinc_A s) (s.regs.setPair .hl (hl + 1)) (tick (memWrite (tick s) hl s.regs.a)) s hl s.regs.a ∧
      CompletesStoring (exec .LD_mHLdec_A s) (s.regs.setPair .hl (hl - 1)) (tick (memWrite (tick s) hl s.regs.a)) s hl s.regs.a)


/-! ## 16-bit loads and the stack -/

/-- R431: LD dd,nn puts the immediate word into the pair, its first byte into the low half (R324). -/
def Obligations.LdPairImm : Prop :=
  ∀ (dd : Pair) (nn : Word) (s : State), s.vbkRefused = false →
    encode (Instr.ldPair dd nn) = [0x01 ||| (pairCode dd <<< 4), lowByte nn, highByte nn] ∧
    Completes (exec (Instr.ldPair dd nn) s) (s.regs.setPair dd nn) (tick s) s

/-- R432: LD (nn),SP stores the low byte of SP at nn and the high byte at nn + 1 modulo 2^16, in two bus cycles. -/
def Obligations.StoreSp : Prop :=
  ∀ (nn : Word) (s : State), s.vbkRefused = false →
    let s1 := memWrite (tick s) nn (lowByte s.regs.sp)
    let s2 := memWrite (tick s1) (nn + 1) (highByte s.regs.sp)
    encode (.LD_mnn_SP nn) = [0x08, lowByte nn, highByte nn] ∧
    if selectsVramBank1 s.params.cgb nn (lowByte s.regs.sp) || selectsVramBank1 s.params.cgb (nn + 1) (highByte s.regs.sp) then
      exec (.LD_mnn_SP nn) s = .refused .vramBank1
    else CompletesStoringTwice (exec (.LD_mnn_SP nn) s) s.regs (tick s2) s nn (lowByte s.regs.sp) (tick s1)
      (nn + 1) (highByte s.regs.sp)

/-- R433, R436, R504: LD SP,HL, LD HL,SP+e and ADD SP,e. The sum is SP + e with e signed, modulo 2^16; H and C come from the unsigned
addition of the low byte of SP and the raw byte e, Z and N are cleared. -/
def Obligations.SpOffsetForms : Prop :=
  ∀ (e : Byte) (s : State), s.vbkRefused = false →
    encode .LD_SP_HL = [0xF9] ∧ encode (.LD_HL_SP_e e) = [0xF8, e] ∧ encode (.ADD_SP_e e) = [0xE8, e] ∧
    Completes (exec .LD_SP_HL s) { s.regs with sp := word s.regs.h s.regs.l } (tick (tick s)) s ∧
    ∃ f : Byte, f &&& 0x0F = 0 ∧ flagZ f = false ∧ flagN f = false ∧
      (flagH f = true ↔ s.regs.sp.toNat % 16 + e.toNat % 16 > 0xF) ∧
      (flagC f = true ↔ s.regs.sp.toNat % 256 + e.toNat > 0xFF) ∧
      Completes (exec (.LD_HL_SP_e e) s)
        { s.regs.setPair .hl (BitVec.ofInt 16 (s.regs.sp.toNat + e.toInt)) with f := f } (tick (tick s)) s ∧
      Completes (exec (.ADD_SP_e e) s)
        { s.regs with sp := BitVec.ofInt 16 (s.regs.sp.toNat + e.toInt), f := f } (tick (tick (tick s))) s

/-- R434: PUSH qq decrements SP and writes the high byte, then decrements SP and writes the low byte, each in its own bus cycle after
an internal one. PUSH AF stores F. No flag changes. -/
def Obligations.PushPair : Prop :=
  ∀ (qq : QPair) (s : State), s.vbkRefused = false →
    let v := s.regs.qpair qq
    let s1 := memWrite (tick (tick s)) (s.regs.sp - 1) (highByte v)
    let s2 := memWrite (tick s1) (s.regs.sp - 2) (lowByte v)
    encode (Instr.push qq) = [0xC5 ||| (qpairCode qq <<< 4)] ∧
    if selectsVramBank1 s.params.cgb (s.regs.sp - 1) (highByte v) || selectsVramBank1 s.params.cgb (s.regs.sp - 2) (lowByte v) then
      exec (Instr.push qq) s = .refused .vramBank1
    else CompletesStoringTwice (exec (Instr.push qq) s) { s.regs with sp := s.regs.sp - 2 } (tick s2) s
      (s.regs.sp - 1) (highByte v) (tick s1) (s.regs.sp - 2) (lowByte v)

/-- R435: POP qq reads the low byte at SP and the high byte at SP + 1, in two bus cycles, and leaves SP two higher. POP AF masks the low
nibble of F off; the other forms leave F alone. -/
def Obligations.PopPair : Prop :=
  ∀ (qq : QPair) (s : State), s.vbkRefused = false →
    let lo := read8 (tick s) s.regs.sp
    let s1 := memRead (tick s) s.regs.sp
    let hi := read8 (tick s1) (s.regs.sp + 1)
    let s2 := memRead (tick s1) (s.regs.sp + 1)
    let r := { s.regs with sp := s.regs.sp + 2 }
    encode (Instr.pop qq) = [0xC1 ||| (qpairCode qq <<< 4)] ∧
    Completes (exec (Instr.pop qq) s)
      (match qq with
        | .bc => { r with b := hi, c := lo }
        | .de => { r with d := hi, e := lo }
        | .hl => { r with h := hi, l := lo }
        | .af => { r with a := hi, f := lo &&& 0xF0 }) (tick s2) s

/-! ## 8-bit arithmetic and logic -/

/-- R451 to R458: the ALU functions, as exact arithmetic on the operand values with the result taken modulo 256; H is the carry out of bit
3 or the borrow into it, C out of bit 7. CP leaves the accumulator. -/
def Obligations.AluFunctions : Prop :=
  ∀ (op : AluOp) (a b f : Byte),
    let c : Nat := (flagC f).toNat
    let r := (alu op a b f).1
    let g := (alu op a b f).2
    g &&& 0x0F = 0 ∧
    match op with
    | .add => r.toNat = (a.toNat + b.toNat) % 256 ∧ flagZ g = (r == 0) ∧ flagN g = false ∧
        (flagH g = true ↔ a.toNat % 16 + b.toNat % 16 > 0xF) ∧ (flagC g = true ↔ a.toNat + b.toNat > 0xFF)
    | .adc => r.toNat = (a.toNat + b.toNat + c) % 256 ∧ flagZ g = (r == 0) ∧ flagN g = false ∧
        (flagH g = true ↔ a.toNat % 16 + b.toNat % 16 + c > 0xF) ∧ (flagC g = true ↔ a.toNat + b.toNat + c > 0xFF)
    | .sub => (r.toNat : Int) = (a.toNat - b.toNat : Int) % 256 ∧ flagZ g = (r == 0) ∧ flagN g = true ∧
        (flagH g = true ↔ a.toNat % 16 < b.toNat % 16) ∧ (flagC g = true ↔ a.toNat < b.toNat)
    | .sbc => (r.toNat : Int) = (a.toNat - b.toNat - c : Int) % 256 ∧ flagZ g = (r == 0) ∧ flagN g = true ∧
        (flagH g = true ↔ ((a.toNat % 16 : Nat) : Int) - (b.toNat % 16 : Nat) - c < 0) ∧
        (flagC g = true ↔ (a.toNat : Int) - b.toNat - c < 0)
    | .and => r = a &&& b ∧ flagZ g = (r == 0) ∧ flagN g = false ∧ flagH g = true ∧ flagC g = false
    | .xor => r = a ^^^ b ∧ flagZ g = (r == 0) ∧ flagN g = false ∧ flagH g = false ∧ flagC g = false
    | .or => r = a ||| b ∧ flagZ g = (r == 0) ∧ flagN g = false ∧ flagH g = false ∧ flagC g = false
    | .cp => r = a ∧ flagZ g = (a == b) ∧ flagN g = true ∧
        (flagH g = true ↔ a.toNat % 16 < b.toNat % 16) ∧ (flagC g = true ↔ a.toNat < b.toNat)

/-- R459 to R466: an ALU instruction on a register puts the function's result into A and its flags into F, in one bus cycle; nothing
else changes. What the function gives is AluFunctions. -/
def Obligations.AluReg : Prop :=
  ∀ (op : AluOp) (r : Reg8) (s : State), s.vbkRefused = false →
    encode (Instr.aluReg op r) = [0x80 ||| (aluCode op <<< 3) ||| regCode r] ∧
    Completes (exec (Instr.aluReg op r) s)
      { s.regs with a := (alu op s.regs.a (s.regs.get r) s.regs.f).1, f := (alu op s.regs.a (s.regs.get r) s.regs.f).2 } (tick s) s

/-- R467 to R482: the same for the byte at HL, read in the bus cycle before, and for an immediate byte. -/
def Obligations.AluMemoryAndImmediate : Prop :=
  ∀ (op : AluOp) (s : State), s.vbkRefused = false →
    let result := fun (v : Byte) => { s.regs with a := (alu op s.regs.a v s.regs.f).1, f := (alu op s.regs.a v s.regs.f).2 }
    let hl := word s.regs.h s.regs.l
    encode (Instr.aluHl op) = [0x86 ||| (aluCode op <<< 3)] ∧
    Completes (exec (Instr.aluHl op) s) (result (read8 (tick s) hl)) (tick (memRead (tick s) hl)) s ∧
    ∀ n : Byte, encode (Instr.aluImm op n) = [0xC6 ||| (aluCode op <<< 3), n] ∧
      Completes (exec (Instr.aluImm op n) s) (result n) (tick s) s

/-- R483, R484: INC r and DEC r step the register modulo 256; Z, N and H as the rules say, C unchanged. -/
def Obligations.IncDecReg : Prop :=
  ∀ (r : Reg8) (s : State), s.vbkRefused = false →
    encode (Instr.incReg r) = [0x04 ||| (regCode r <<< 3)] ∧ encode (Instr.decReg r) = [0x05 ||| (regCode r <<< 3)] ∧
    (∃ f : Byte, f &&& 0x0F = 0 ∧ flagZ f = (s.regs.get r + 1 == 0) ∧ flagN f = false ∧
      (flagH f = true ↔ (s.regs.get r).toNat % 16 = 15) ∧ flagC f = flagC s.regs.f ∧
      Completes (exec (Instr.incReg r) s) { s.regs.set r (s.regs.get r + 1) with f := f } (tick s) s) ∧
    ∃ f : Byte, f &&& 0x0F = 0 ∧ flagZ f = (s.regs.get r - 1 == 0) ∧ flagN f = true ∧
      (flagH f = true ↔ (s.regs.get r).toNat % 16 = 0) ∧ flagC f = flagC s.regs.f ∧
      Completes (exec (Instr.decReg r) s) { s.regs.set r (s.regs.get r - 1) with f := f } (tick s) s

/-- R485, R486: INC (HL) and DEC (HL) read the byte in one bus cycle and write it stepped by one in the next; flags as for a register. A
write that would select VRAM bank 1 is refused instead (R131). -/
def Obligations.IncDecMem : Prop :=
  ∀ (s : State), s.vbkRefused = false →
    let hl := word s.regs.h s.regs.l
    let v := read8 (tick s) hl
    let s1 := tick (memRead (tick s) hl)
    encode .INC_mHL = [0x34] ∧ encode .DEC_mHL = [0x35] ∧
    (if selectsVramBank1 s.params.cgb hl (v + 1) then exec .INC_mHL s = .refused .vramBank1
    else ∃ f : Byte, f &&& 0x0F = 0 ∧ flagZ f = (v + 1 == 0) ∧ flagN f = false ∧ (flagH f = true ↔ v.toNat % 16 = 15) ∧
        flagC f = flagC s.regs.f ∧
        CompletesStoring (exec .INC_mHL s) { s.regs with f := f } (tick (memWrite s1 hl (v + 1))) s hl (v + 1)) ∧
    if selectsVramBank1 s.params.cgb hl (v - 1) then exec .DEC_mHL s = .refused .vramBank1
    else ∃ f : Byte, f &&& 0x0F = 0 ∧ flagZ f = (v - 1 == 0) ∧ flagN f = true ∧ (flagH f = true ↔ v.toNat % 16 = 0) ∧
        flagC f = flagC s.regs.f ∧
        CompletesStoring (exec .DEC_mHL s) { s.regs with f := f } (tick (memWrite s1 hl (v - 1))) s hl (v - 1)

/-- R487 to R490: DAA, CPL, SCF and CCF take one bus cycle and change A and F only, as the rules say. DAA's A and carry follow the rule's
pseudocode on exact integers. -/
def Obligations.AccumulatorOps : Prop :=
  ∀ (s : State), s.vbkRefused = false →
    let a : Int := s.regs.a.toNat
    let n := flagN s.regs.f
    let h := flagH s.regs.f
    let c := flagC s.regs.f
    let high : Bool := c || (!n && decide (a > 0x99))
    let low : Bool := h || (!n && decide (a % 16 > 9))
    let fix : Int := (if high then 0x60 else 0) + (if low then 0x06 else 0)
    let r : Byte := BitVec.ofInt 8 (if n then a - fix else a + fix)
    encode .DAA = [0x27] ∧ encode .CPL = [0x2F] ∧ encode .SCF = [0x37] ∧ encode .CCF = [0x3F] ∧
    (∃ f : Byte, f &&& 0x0F = 0 ∧ flagZ f = (r == 0) ∧ flagN f = n ∧ flagH f = false ∧ flagC f = high ∧
      Completes (exec .DAA s) { s.regs with a := r, f := f } (tick s) s) ∧
    (∃ f : Byte, f &&& 0x0F = 0 ∧ flagZ f = flagZ s.regs.f ∧ flagN f = true ∧ flagH f = true ∧ flagC f = c ∧
      Completes (exec .CPL s) { s.regs with a := ~~~s.regs.a, f := f } (tick s) s) ∧
    (∃ f : Byte, f &&& 0x0F = 0 ∧ flagZ f = flagZ s.regs.f ∧ flagN f = false ∧ flagH f = false ∧ flagC f = true ∧
      Completes (exec .SCF s) { s.regs with f := f } (tick s) s) ∧
    ∃ f : Byte, f &&& 0x0F = 0 ∧ flagZ f = flagZ s.regs.f ∧ flagN f = false ∧ flagH f = false ∧ flagC f = !c ∧
      Completes (exec .CCF s) { s.regs with f := f } (tick s) s

/-- R487: DAA after an addition of two-digit BCD numbers gives the BCD digits of the sum modulo 100 and the carry into the hundreds. -/
def Obligations.DaaAfterBcdAddition : Prop :=
  ∀ (x y : Nat), x < 100 → y < 100 → ∀ f : Byte,
    let bcd := fun (k : Nat) => BitVec.ofNat 8 (k / 10 * 16 + k % 10)
    let sum := alu .add (bcd x) (bcd y) f
    (daa8 sum.1 sum.2).1 = bcd ((x + y) % 100) ∧ (flagC (daa8 sum.1 sum.2).2 = true ↔ 100 ≤ x + y)

/-! ## 16-bit arithmetic -/

/-- R501 to R503: ADD HL,dd, INC dd and DEC dd take two bus cycles; ADD HL,dd leaves Z, clears N and sets H and C from the carries out of
bits 11 and 15; INC and DEC change no flag. -/
def Obligations.PairArithmetic : Prop :=
  ∀ (dd : Pair) (s : State), s.vbkRefused = false →
    let hl := word s.regs.h s.regs.l
    let v := s.regs.pair dd
    encode (Instr.addHl dd) = [0x09 ||| (pairCode dd <<< 4)] ∧
    encode (Instr.incPair dd) = [0x03 ||| (pairCode dd <<< 4)] ∧
    encode (Instr.decPair dd) = [0x0B ||| (pairCode dd <<< 4)] ∧
    (∃ f : Byte, f &&& 0x0F = 0 ∧ flagZ f = flagZ s.regs.f ∧ flagN f = false ∧
      (flagH f = true ↔ hl.toNat % 0x1000 + v.toNat % 0x1000 > 0xFFF) ∧ (flagC f = true ↔ hl.toNat + v.toNat > 0xFFFF) ∧
      Completes (exec (Instr.addHl dd) s) { s.regs.setPair .hl (hl + v) with f := f } (tick (tick s)) s) ∧
    Completes (exec (Instr.incPair dd) s) (s.regs.setPair dd (v + 1)) (tick (tick s)) s ∧
    Completes (exec (Instr.decPair dd) s) (s.regs.setPair dd (v - 1)) (tick (tick s)) s

/-! ## Rotates, shifts and bits -/

/-- R511 to R514, R523 to R530: a CB rotate or shift puts the function's result into its register and its flags into F, one bus cycle after
the one that read the second byte; what the function gives is ShiftFunctions. The accumulator rotates take one bus cycle, put the bit
shifted out into C and clear Z, N and H whatever the result. Nothing else changes. -/
def Obligations.RotateRegister : Prop :=
  ∀ (s : State), s.vbkRefused = false →
    let n := s.regs.a.toNat
    let c := (flagC s.regs.f).toNat
    let rotates := fun (i : Instr) (r : Nat) (out : Bool) =>
      ∃ f : Byte, f &&& 0x0F = 0 ∧ flagZ f = false ∧ flagN f = false ∧ flagH f = false ∧ flagC f = out ∧
        Completes (exec i s) { s.regs with a := BitVec.ofNat 8 r, f := f } (tick s) s
    encode .RLCA = [0x07] ∧ encode .RRCA = [0x0F] ∧ encode .RLA = [0x17] ∧ encode .RRA = [0x1F] ∧
    rotates .RLCA ((2 * n + n / 128) % 256) (s.regs.a.getLsbD 7) ∧
    rotates .RRCA (n / 2 + n % 2 * 128) (s.regs.a.getLsbD 0) ∧
    rotates .RLA ((2 * n + c) % 256) (s.regs.a.getLsbD 7) ∧
    rotates .RRA (n / 2 + c * 128) (s.regs.a.getLsbD 0) ∧
    ∀ (op : RotOp) (r : Reg8), encode (Instr.rotReg op r) = [(0xCB : Byte), (rotCode op <<< 3) ||| regCode r] ∧
      Completes (exec (Instr.rotReg op r) s)
        { s.regs.set r (rotate op (s.regs.get r) s.regs.f).1 with f := (rotate op (s.regs.get r) s.regs.f).2 } (tick s) s

/-- R515 to R522: the CB rotate and shift functions, as arithmetic on the value of the byte and the carry-in; Z is set where the result is
zero, N and H are cleared, C takes the bit shifted out (SWAP clears it). -/
def Obligations.ShiftFunctions : Prop :=
  ∀ (op : RotOp) (v f : Byte),
    let n := v.toNat
    let c := (flagC f).toNat
    let r := (rotate op v f).1
    let g := (rotate op v f).2
    (g &&& 0x0F = 0 ∧ flagZ g = (r == 0) ∧ flagN g = false ∧ flagH g = false) ∧
    match op with
    | .rlc => r.toNat = (2 * n + n / 128) % 256 ∧ flagC g = v.getLsbD 7
    | .rrc => r.toNat = n / 2 + n % 2 * 128 ∧ flagC g = v.getLsbD 0
    | .rl => r.toNat = (2 * n + c) % 256 ∧ flagC g = v.getLsbD 7
    | .rr => r.toNat = n / 2 + c * 128 ∧ flagC g = v.getLsbD 0
    | .sla => r.toNat = 2 * n % 256 ∧ flagC g = v.getLsbD 7
    | .sra => r.toNat = n / 2 + n / 128 * 128 ∧ flagC g = v.getLsbD 0
    | .swap => r.toNat = n % 16 * 16 + n / 16 ∧ flagC g = false
    | .srl => r.toNat = n / 2 ∧ flagC g = v.getLsbD 0

/-- R531 to R538: the same on the byte at HL, read in one bus cycle and written in the next. -/
def Obligations.RotateMemory : Prop :=
  ∀ (op : RotOp) (s : State), s.vbkRefused = false →
    let hl := word s.regs.h s.regs.l
    let v := read8 (tick s) hl
    let w := (rotate op v s.regs.f).1
    encode (Instr.rotHl op) = [(0xCB : Byte), (rotCode op <<< 3) ||| 6] ∧
    if selectsVramBank1 s.params.cgb hl w then exec (Instr.rotHl op) s = .refused .vramBank1
    else CompletesStoring (exec (Instr.rotHl op) s) { s.regs with f := (rotate op v s.regs.f).2 }
      (tick (memWrite (tick (memRead (tick s) hl)) hl w)) s hl w

/-- R539, R541, R543: BIT b,r sets Z to the complement of the bit, clears N, sets H, leaves C and writes no register; RES b,r and SET b,r
change bit b of the register alone and no flag. Each takes one bus cycle after the one that read the second byte. -/
def Obligations.BitRegister : Prop :=
  ∀ (b : Fin 8) (r : Reg8) (s : State), s.vbkRefused = false →
    let v := s.regs.get r
    encode (Instr.bitReg b r) = [(0xCB : Byte), 0x40 ||| (bitCode b <<< 3) ||| regCode r] ∧
    encode (Instr.resReg b r) = [(0xCB : Byte), 0x80 ||| (bitCode b <<< 3) ||| regCode r] ∧
    encode (Instr.setReg b r) = [(0xCB : Byte), 0xC0 ||| (bitCode b <<< 3) ||| regCode r] ∧
    (∃ f : Byte, f &&& 0x0F = 0 ∧ flagZ f = !v.getLsbD b.val ∧ flagN f = false ∧ flagH f = true ∧ flagC f = flagC s.regs.f ∧
      Completes (exec (Instr.bitReg b r) s) { s.regs with f := f } (tick s) s) ∧
    (∃ w : Byte, (∀ k : Fin 8, w.getLsbD k.val = (v.getLsbD k.val && decide (k ≠ b))) ∧
      Completes (exec (Instr.resReg b r) s) (s.regs.set r w) (tick s) s) ∧
    ∃ w : Byte, (∀ k : Fin 8, w.getLsbD k.val = (v.getLsbD k.val || decide (k = b))) ∧
      Completes (exec (Instr.setReg b r) s) (s.regs.set r w) (tick s) s

/-- R540, R542, R544: the same on the byte at HL: BIT b,(HL) reads it and writes nothing; RES b,(HL) and SET b,(HL) read it in one bus
cycle and write it with bit b changed in the next, also where the bit had that value already. -/
def Obligations.BitMemory : Prop :=
  ∀ (b : Fin 8) (s : State), s.vbkRefused = false →
    let hl := word s.regs.h s.regs.l
    let v := read8 (tick s) hl
    let p := tick (memRead (tick s) hl)
    let stores := fun (i : Instr) (w : Byte) =>
      if selectsVramBank1 s.params.cgb hl w then exec i s = .refused .vramBank1
      else CompletesStoring (exec i s) s.regs (tick (memWrite p hl w)) s hl w
    encode (Instr.bitHl b) = [(0xCB : Byte), 0x46 ||| (bitCode b <<< 3)] ∧
    encode (Instr.resHl b) = [(0xCB : Byte), 0x86 ||| (bitCode b <<< 3)] ∧
    encode (Instr.setHl b) = [(0xCB : Byte), 0xC6 ||| (bitCode b <<< 3)] ∧
    (∃ f : Byte, f &&& 0x0F = 0 ∧ flagZ f = !v.getLsbD b.val ∧ flagN f = false ∧ flagH f = true ∧ flagC f = flagC s.regs.f ∧
      Completes (exec (Instr.bitHl b) s) { s.regs with f := f } p s) ∧
    (∃ w : Byte, (∀ k : Fin 8, w.getLsbD k.val = (v.getLsbD k.val && decide (k ≠ b))) ∧ stores (Instr.resHl b) w) ∧
    ∃ w : Byte, (∀ k : Fin 8, w.getLsbD k.val = (v.getLsbD k.val || decide (k = b))) ∧ stores (Instr.setHl b) w

/-! ## Control transfer -/

/-- R551 to R555, R323: the jumps set PC and change no flag and no other register. A relative target is PC + e with e signed, modulo 2^16,
from the PC after the instruction. A jump whose condition fails takes one bus cycle less and leaves PC alone. -/
def Obligations.JumpsSetPc : Prop :=
  ∀ (s : State), s.vbkRefused = false →
    let holds := fun (cc : Cond) =>
      match cc with
      | .nz => flagZ s.regs.f = false
      | .z => flagZ s.regs.f = true
      | .nc => flagC s.regs.f = false
      | .c => flagC s.regs.f = true
    let goesTo := fun (i : Instr) (target : Word) => Completes (exec i s) { s.regs with pc := target } (tick (tick s)) s
    let fallsThrough := fun (i : Instr) => Completes (exec i s) s.regs (tick s) s
    (encode .JP_HL = [0xE9] ∧ Completes (exec .JP_HL s) { s.regs with pc := word s.regs.h s.regs.l } (tick s) s) ∧
    (∀ nn : Word, encode (.JP_nn nn) = [0xC3, lowByte nn, highByte nn] ∧ goesTo (.JP_nn nn) nn) ∧
    (∀ (cc : Cond) (nn : Word), encode (Instr.jpCond cc nn) = [0xC2 ||| (condCode cc <<< 3), lowByte nn, highByte nn] ∧
      (holds cc → goesTo (Instr.jpCond cc nn) nn) ∧ (¬ holds cc → fallsThrough (Instr.jpCond cc nn))) ∧
    (∀ e : Byte, encode (.JR_e e) = [0x18, e] ∧ goesTo (.JR_e e) (BitVec.ofInt 16 (s.regs.pc.toNat + e.toInt))) ∧
    ∀ (cc : Cond) (e : Byte), encode (Instr.jrCond cc e) = [0x20 ||| (condCode cc <<< 3), e] ∧
      (holds cc → goesTo (Instr.jrCond cc e) (BitVec.ofInt 16 (s.regs.pc.toNat + e.toInt))) ∧
      (¬ holds cc → fallsThrough (Instr.jrCond cc e))

/-- R556, R557, R561: a call or restart pushes PC, the high byte first, each byte in its own bus cycle, and sets PC to its target; SP ends two
lower and no flag changes. A call whose condition fails takes one bus cycle after its last byte and changes nothing. -/
def Obligations.CallsPushReturnAddress : Prop :=
  ∀ (s : State), s.vbkRefused = false →
    let hi := highByte s.regs.pc
    let lo := lowByte s.regs.pc
    let s1 := memWrite (tick (tick s)) (s.regs.sp - 1) hi
    let s2 := memWrite (tick s1) (s.regs.sp - 2) lo
    let calls := fun (i : Instr) (target : Word) =>
      if selectsVramBank1 s.params.cgb (s.regs.sp - 1) hi || selectsVramBank1 s.params.cgb (s.regs.sp - 2) lo then
        exec i s = .refused .vramBank1
      else CompletesStoringTwice (exec i s) { s.regs with sp := s.regs.sp - 2, pc := target } (tick s2) s
        (s.regs.sp - 1) hi (tick s1) (s.regs.sp - 2) lo
    (∀ nn : Word, encode (.CALL_nn nn) = [0xCD, lowByte nn, highByte nn] ∧ calls (.CALL_nn nn) nn) ∧
    (∀ (cc : Cond) (nn : Word), encode (Instr.callCond cc nn) = [0xC4 ||| (condCode cc <<< 3), lowByte nn, highByte nn] ∧
      (condHolds cc s.regs.f = true → calls (Instr.callCond cc nn) nn) ∧
      (condHolds cc s.regs.f = false → Completes (exec (Instr.callCond cc nn) s) s.regs (tick s) s)) ∧
    ∀ t : Fin 8, encode (Instr.rst t) = [0xC7 ||| (bitCode t <<< 3)] ∧ calls (Instr.rst t) (BitVec.ofNat 16 (8 * t.val))

/-- R558 to R560: a return pops PC, the low byte first, each byte in its own bus cycle; SP ends two higher and no flag changes. RETI sets IME
to ENABLED in the bus cycle that sets PC. RET cc tests its condition in its second bus cycle and changes nothing where it fails. -/
def Obligations.ReturnsPopPc : Prop :=
  ∀ (s : State), s.vbkRefused = false →
    let lo := fun (p : State) => read8 p s.regs.sp
    let s1 := fun (p : State) => tick (memRead p s.regs.sp)
    let hi := fun (p : State) => read8 (s1 p) (s.regs.sp + 1)
    let s2 := fun (p : State) => tick (memRead (s1 p) (s.regs.sp + 1))
    let back := fun (p : State) => { s.regs with sp := s.regs.sp + 2, pc := word (hi p) (lo p) }
    (encode .RET = [0xC9] ∧ Completes (exec .RET s) (back (tick s)) (tick (s2 (tick s))) s) ∧
    (encode .RETI = [0xD9] ∧ Completes (exec .RETI s) (back (tick s)) (tick (setIme (s2 (tick s)) .enabled)) s) ∧
    ∀ cc : Cond, encode (Instr.retCond cc) = [0xC0 ||| (condCode cc <<< 3)] ∧
      (condHolds cc s.regs.f = true →
        Completes (exec (Instr.retCond cc) s) (back (tick (tick s))) (tick (s2 (tick (tick s)))) s) ∧
      (condHolds cc s.regs.f = false → Completes (exec (Instr.retCond cc) s) s.regs (tick (tick s)) s)

/-! ## System -/

/-- R571, R574, R575: NOP, DI and EI take one bus cycle and change no register and no flag. DI disables IME whatever it was; EI makes a
request where IME is DISABLED in its bus cycle and leaves the other values. -/
def Obligations.NopDiEi : Prop :=
  ∀ (s : State), s.vbkRefused = false →
    let ime := (tick s).eng.ime
    (encode .NOP = [0x00] ∧ Completes (exec .NOP s) s.regs (tick s) s) ∧
    (encode .DI = [0xF3] ∧ Completes (exec .DI s) s.regs (setIme (tick s) .disabled) s) ∧
    (encode .EI = [0xFB] ∧ Completes (exec .EI s) s.regs (setIme (tick s) (if ime = .disabled then .requested else ime)) s)

/-- R572: HALT takes one bus cycle and changes no register. It halts where IME is ENABLED or nothing is pending; else on DMG it sets the HALT
bug and the CPU goes on; else, on CGB, it does nothing. -/
def Obligations.HaltEntersHalted : Prop :=
  ∀ (s : State), s.vbkRefused = false →
    let p := tick s
    let pend := p.intr.flags &&& p.intr.ie.setWidth 5
    encode .HALT = [0x76] ∧
    (p.eng.ime = .enabled ∨ pend = 0 →
      Completes (exec .HALT s) s.regs { p with eng := { p.eng with run := .halted } } s) ∧
    (p.eng.ime ≠ .enabled → pend ≠ 0 → s.params.cgb = false →
      Completes (exec .HALT s) s.regs { p with eng := { p.eng with haltBug := true } } s) ∧
    (p.eng.ime ≠ .enabled → pend ≠ 0 → s.params.cgb = true → Completes (exec .HALT s) s.regs p s)

/-- R573: STOP takes one bus cycle and stops the CPU; with STOP_LENGTH 2 it reads and ignores the byte at PC and advances PC. DIV is not reset.
The length is a parameter of the state, open in the spec (log 8). -/
def Obligations.StopEntersStopped : Prop :=
  ∀ (s : State), s.vbkRefused = false →
    let stopped := fun (p : State) => { p with eng := { p.eng with run := .stopped } }
    encode .STOP = [0x10] ∧
    (s.params.stopLength = .one → Completes (exec .STOP s) s.regs (stopped (tick s)) s) ∧
    (s.params.stopLength = .two → Completes (exec .STOP s) { s.regs with pc := s.regs.pc + 1 }
      (stopped (memRead (tick s) s.regs.pc)) s)

/-- R367: the prefix byte reads the byte at PC in the next bus cycle, advances PC, and is then the CB instruction of that byte. It completes
unless that instruction's write is the refused one (R131), which only an address HL = 0xFF4F on CGB can be. -/
def Obligations.PrefixByteRunsCb : Prop :=
  ∀ (s : State), s.vbkRefused = false →
    exec .PREFIX_CB s = exec (cbInstr (read8 (tick s) s.regs.pc)) (immRead (tick s)) ∧
    (s.params.cgb = false ∨ word s.regs.h s.regs.l ≠ 0xFF4F →
      ∃ t, exec .PREFIX_CB s = .next t ∧ t.regs.pc = s.regs.pc + 1 ∧ t.regs.sp = s.regs.sp ∧ exhausted t = true)

/-- R328, R370: the rows of the eleven illegal opcodes are not well-formed instructions, and each ends in the fault with its opcode and the
address it was fetched from, the queue empty and every other part of the state as the fetch left it. -/
def Obligations.IllegalOpcodesFault : Prop :=
  ∀ (i : Instr) (op : Byte), i.illegalOpcode = some op →
    i.wellFormed = false ∧ isIllegalOpcode op = true ∧ encode i = [op] ∧
    ∀ s : State, exec i s = .fault (.illegalOpcode op s.eng.ctx.addr
      { s with eng := { s.eng with queue := [], qi := 0, fault := some (op, s.eng.ctx.addr) } })

/-! ## Interrupts and the run state -/

/-- R605 to R607, R603: with IME ENABLED and source k the lowest bit set in IF, IE and 0x1F together, the dispatch check clears that bit of IF
alone, disables IME, pushes PC with the high byte first and jumps to 0x0040 + 8 k. Otherwise it does nothing. -/
def Obligations.TakeInterrupt : Prop :=
  ∀ (s : State),
    let pend := fun (j : Fin 5) => s.intr.flags.getLsbD j.val && s.intr.ie.getLsbD j.val
    (s.eng.ime ≠ .enabled ∨ (∀ j, pend j = false) → dispatchCheck s = s) ∧
    ∀ k : Fin 5, s.eng.ime = .enabled → pend k = true → (∀ j, j < k → pend j = false) →
      ∃ flags : BitVec 5, (∀ j : Fin 5, flags.getLsbD j.val = (s.intr.flags.getLsbD j.val && decide (j ≠ k))) ∧
        let p := { s with intr := { s.intr with flags := flags }, eng := { s.eng with ime := .disabled } }
        dispatchCheck s =
          { memWrite (memWrite p (s.regs.sp - 1) (highByte s.regs.pc)) (s.regs.sp - 2) (lowByte s.regs.pc) with
            regs := { s.regs with sp := s.regs.sp - 2, pc := 0x0040 + BitVec.ofNat 16 (8 * k.val) } }

/-- R363: the IME advance runs at the beginning of every bus cycle, so that after EI the dispatch check can see ENABLED two bus cycles later
and not before. -/
def Obligations.EiDelay : Prop :=
  (∀ s : State, (tick s).eng.ime =
    match s.eng.ime with
    | .disabled => .disabled
    | .requested => .enabling
    | .enabling => .enabled
    | .enabled => .enabled) ∧
  ∀ s : State, s.vbkRefused = false → s.eng.ime = .disabled →
    ∃ t, exec .EI s = .next t ∧ t.eng.ime = .requested ∧ dispatchCheck t = t ∧
      (tick t).eng.ime = .enabling ∧ dispatchCheck (tick t) = tick t ∧ ∀ n, (elapse (n + 2) t).eng.ime = .enabled

/-- R612 to R615: a halted or stopped CPU passes one bus cycle and makes no bus access. A halted one wakes where an interrupt is pending in the
CPU phase of that bus cycle, whatever IME is; a stopped one where a joypad line falls; neither takes the interrupt in doing so. -/
def Obligations.HaltedAndStopped : Prop :=
  ∀ (s : State), s.eng.fault = none → s.vbkRefused = false →
    let pend := fun (t : State) => t.intr.flags &&& t.intr.ie.setWidth 5
    (s.eng.run = .halted → ∃ t, step s = .next t ∧ t.regs = s.regs ∧ t.env.bus = s.env.bus ∧
      t.eng.run = (if pend t = 0 then .halted else .running) ∧ t = { tick s with eng := { (tick s).eng with run := t.eng.run } }) ∧
    (s.eng.run = .stopped → step s = .next (tick s) ∧ (tick s).regs = s.regs ∧ (tick s).env.bus = s.env.bus ∧
      (tick s).eng.run = (if ∃ i : Fin 4, s.joy.lastLines.getLsbD i.val = true ∧
        (joypadLines s.joy.sel s.env.keys).getLsbD i.val = false then .running else .stopped))

/-! ## Timer -/

/-- R621: the timer phase: a reload that is due, SYS by 4, and TIMA on a falling edge of the selected bit of SYS gated by the enable bit; the
rest of the state is unchanged. -/
def Obligations.TimerPhase : Prop :=
  ∀ (s : State),
    let t := timerPhase s
    let tima := if s.timer.reloadPending then s.timer.tma else s.timer.tima
    let bit := match s.timer.tac.toNat % 4 with
      | 0 => 9
      | 1 => 3
      | 2 => 5
      | _ => 7
    let signal := s.timer.tac.getLsbD 2 && (s.timer.sys + 4).getLsbD bit
    let falls := s.timer.signal && !signal
    t.timer =
      { s.timer with
        sys := s.timer.sys + 4
        tima := if falls then (if tima = 0xFF then 0x00 else tima + 1) else tima
        signal := signal
        reloadPending := falls && tima == 0xFF } ∧
    t.intr = { s.intr with flags := if s.timer.reloadPending then s.intr.flags ||| 0b00100 else s.intr.flags } ∧
    t = { s with timer := t.timer, intr := t.intr }

/-- R622, R623: an overflow leaves TIMA at 0x00 until the next timer phase, which loads it from TMA and requests TIMER. A write of TIMA before
it is kept and cancels both; a write of TMA before it does not show in TIMA, and is what the reload loads. -/
def Obligations.TimaReload : Prop :=
  ∀ (s u : State), (timerPhase s).timer.reloadPending = true → u.timer = (timerPhase s).timer →
    (timerPhase s).timer.tima = 0x00 ∧ read8 u 0xFF05 = 0x00 ∧
    ((timerPhase u).timer.tima = u.timer.tma ∧ (timerPhase u).timer.reloadPending = false ∧
      (timerPhase u).intr.flags.getLsbD 2 = true) ∧
    (∀ v, (timerPhase (write8 u 0xFF05 v)).timer.tima = v ∧ (timerPhase (write8 u 0xFF05 v)).timer.reloadPending = false ∧
      (timerPhase (write8 u 0xFF05 v)).intr = u.intr) ∧
    ∀ v, read8 (write8 u 0xFF06 v) 0xFF05 = 0x00 ∧ (timerPhase (write8 u 0xFF06 v)).timer.tima = v ∧
      (timerPhase (write8 u 0xFF06 v)).intr.flags.getLsbD 2 = true

/-- R624, R56, R57: DIV reads the high byte of SYS; writing it clears SYS, which then counts 4 in every bus cycle; no other write reaches SYS. -/
def Obligations.DivRegister : Prop :=
  ∀ (s : State), read8 s 0xFF04 = highByte s.timer.sys ∧
    (∀ v k, (read8 (elapse k (write8 s 0xFF04 v)) 0xFF04).toNat = 4 * k % 65536 / 256) ∧
    ∀ a v, a ≠ 0xFF04 → (write8 s a v).timer.sys = s.timer.sys

/-- R625: with the timer enabled and no overflow, TIMA counts once in every period of 256, 4, 16 or 64 bus cycles by TAC, wherever in the
period it begins. The premise on the signal holds from the end of a timer phase until DIV or TAC is written. -/
def Obligations.TimerRate : Prop :=
  ∀ (s : State) (n : Nat), s.timer.tac.getLsbD 2 = true → s.timer.signal = s.timer.level → s.timer.reloadPending = false →
    s.timer.tima.toNat + n < 256 →
    let period := match s.timer.tac.toNat % 4 with
      | 0 => 256
      | 1 => 4
      | 2 => 16
      | _ => 64
    (elapse (n * period) s).timer.tima = s.timer.tima + BitVec.ofNat 8 n

/-! ## Joypad and the collaborators' requests -/

/-- R630, R631, R635: P1 reads its select bits and the four lines, 0 where a selected key is pressed. The device phase requests JOYPAD and wakes a
stopped CPU where a line falls, then takes the collaborators' requests but bits 2 and 4; the rest of the state is unchanged. -/
def Obligations.JoypadAndRequests : Prop :=
  ∀ (s : State), s.joy.sel &&& 0xCF = 0 →
    let line := fun (i : Fin 4) => !((!s.joy.sel.getLsbD 4 && s.env.keys.getLsbD i.val) ||
      (!s.joy.sel.getLsbD 5 && s.env.keys.getLsbD (4 + i.val)))
    let edge := ∃ i : Fin 4, s.joy.lastLines.getLsbD i.val = true ∧ line i = false
    let t := devicePhase s
    ((∀ i : Fin 4, (read8 s 0xFF00).getLsbD i.val = line i) ∧ read8 s 0xFF00 &&& 0xF0 = 0xC0 ||| s.joy.sel) ∧
    (∀ j : Fin 5, t.intr.flags.getLsbD j.val = true ↔
      s.intr.flags.getLsbD j.val = true ∨ (j = 4 ∧ edge) ∨ ((j = 0 ∨ j = 1 ∨ j = 3) ∧ s.env.extIrq.getLsbD j.val = true)) ∧
    (∀ i : Fin 4, t.joy.lastLines.getLsbD i.val = line i) ∧
    (edge ∧ s.eng.run = .stopped → t.eng.run = .running) ∧ (¬ (edge ∧ s.eng.run = .stopped) → t.eng.run = s.eng.run) ∧
    t = { s with
      intr := { s.intr with flags := t.intr.flags }
      joy := { s.joy with lastLines := t.joy.lastLines }
      eng := { s.eng with run := t.eng.run } }

/-! ## OAM DMA -/

/-- R141, R142, R144: a write of 0xFF46 starts or restarts a transfer from v × 0x100; the first bus cycle tail starts it up, each of the next 160
copies one byte through the memory map, and then it is over. The second part says it for a source that only the program could change. -/
def Obligations.OamDma : Prop :=
  (∀ (s : State) (v : Byte), write8 s 0xFF46 v =
    { s with dma := { reg := v, active := true, started := false, src := word v 0, idx := 0 } }) ∧
  (∀ s : State, s.dma.active = true →
    (s.dma.started = false → dmaPhase s = { s with dma := { s.dma with started := true } }) ∧
    (s.dma.started = true →
      (dmaPhase s).mem.oam = s.mem.oam.write s.dma.idx (read8 s (s.dma.src + BitVec.ofNat 16 s.dma.idx)) ∧
      (dmaPhase s).dma = { s.dma with idx := s.dma.idx + 1, active := decide (s.dma.idx + 1 ≠ 160) })) ∧
  ∀ (s : State) (v : Byte) (n : Nat), n ≤ 160 →
    let t := write8 s 0xFF46 v
    (∀ i : Fin 160, steady t (word v 0 + BitVec.ofNat 16 i.val) = true) →
    (elapse (n + 1) t).dma.idx = n ∧ ((elapse (n + 1) t).dma.active = true ↔ n < 160) ∧
    ∀ i : Fin 160, (elapse (n + 1) t).mem.oam.read i.val =
      if i.val < n then read8 s (word v 0 + BitVec.ofNat 16 i.val) else s.mem.oam.read i.val

/-! ## The memory map -/

/-- R128, R130, R132 to R134, R137, R138: video RAM, work RAM, OAM, high RAM and IE are plain storage: a write is read back, and changes no
other byte that time alone does not change. Work RAM is one array of 8 KiB on DMG; on CGB the upper half is the bank SVBK selects, bank 1
for 0. The echo window is the work RAM 0x2000 below; the unusable region reads 0xFF and drops writes. -/
def Obligations.MemoryMap : Prop :=
  ∀ (s : State) (a : Word) (v : Byte),
    let n := a.toNat
    let bank := if s.mem.svbk.toNat = 0 then 1 else s.mem.svbk.toNat
    (0x8000 ≤ n → n < 0xA000 → cellAt s a = some (.vram (n - 0x8000))) ∧
    (0xC000 ≤ n → n < 0xE000 → s.params.cgb = false → cellAt s a = some (.wram (n - 0xC000))) ∧
    (0xC000 ≤ n → n < 0xD000 → cellAt s a = some (.wram (n - 0xC000))) ∧
    (0xD000 ≤ n → n < 0xE000 → s.params.cgb = true → cellAt s a = some (.wram (bank * 0x1000 + (n - 0xD000)))) ∧
    (0xE000 ≤ n → n < 0xFE00 → read8 s a = read8 s (a - 0x2000) ∧ write8 s a v = write8 s (a - 0x2000) v ∧
      cellAt s a = cellAt s (a - 0x2000)) ∧
    (0xFE00 ≤ n → n < 0xFEA0 → cellAt s a = some (.oam (n - 0xFE00))) ∧
    (0xFEA0 ≤ n → n < 0xFF00 → read8 s a = 0xFF ∧ write8 s a v = s) ∧
    (0xFF80 ≤ n → n < 0xFFFF → cellAt s a = some (.hram (n - 0xFF80))) ∧
    (n = 0xFFFF → cellAt s a = some .ie) ∧
    (0x8000 ≤ n → (n < 0xA000 ∨ 0xC000 ≤ n) → ∀ c, cellAt s a = some c → read8 (write8 s a v) a = v) ∧
    ∀ b, steady s b = true → reaches s a b = false → read8 (write8 s a v) b = read8 s b

/-- R69, R136, R131: what a read of each core-owned I/O register gives and what a write changes; every other I/O address is a collaborator's:
a read is a draw and a write only an event. VBK with bit 0 set on CGB is refused. Two clauses are in the model's own form: that a draw
depends on the events so far and on the number of collaborator reads so far is its choice (log 4, DESIGN CHOICE), and that the refused
write sets a latch is its reading (log 12, DEDUCED). -/
def Obligations.IoRegisters : Prop :=
  ∀ (s : State) (v : Byte),
    (read8 s 0xFF00 = 0xC0 ||| s.joy.sel ||| (joypadLines s.joy.sel s.env.keys).setWidth 8 ∧
      write8 s 0xFF00 v = { s with joy := { s.joy with sel := v &&& 0x30 } }) ∧
    (read8 s 0xFF04 = highByte s.timer.sys ∧ write8 s 0xFF04 v = { s with timer := { s.timer with sys := 0 } }) ∧
    (read8 s 0xFF05 = s.timer.tima ∧
      write8 s 0xFF05 v = { s with timer := { s.timer with tima := v, reloadPending := false } }) ∧
    (read8 s 0xFF06 = s.timer.tma ∧ write8 s 0xFF06 v = { s with timer := { s.timer with tma := v } }) ∧
    ((read8 s 0xFF07).toNat = 0xF8 + s.timer.tac.toNat ∧ ∃ w : BitVec 3, w.toNat = v.toNat % 8 ∧
      write8 s 0xFF07 v = { s with timer := { s.timer with tac := w } }) ∧
    ((read8 s 0xFF0F).toNat = 0xE0 + s.intr.flags.toNat ∧ ∃ w : BitVec 5, w.toNat = v.toNat % 32 ∧
      write8 s 0xFF0F v = { s with intr := { s.intr with flags := w } }) ∧
    read8 s 0xFF46 = s.dma.reg ∧ (write8 s 0xFF46 v).dma.reg = v ∧
    (s.params.cgb = true → (read8 s 0xFF70).toNat = 0xF8 + s.mem.svbk.toNat ∧ ∃ w : BitVec 3, w.toNat = v.toNat % 8 ∧
      write8 s 0xFF70 v = { s with mem := { s.mem with svbk := w } }) ∧
    (read8 s 0xFFFF = s.intr.ie ∧ write8 s 0xFFFF v = { s with intr := { s.intr with ie := v } }) ∧
    (s.params.cgb = true → v.getLsbD 0 = true → write8 s 0xFF4F v = { s with vbkRefused := true }) ∧
    ∀ a : Word, 0xFF00 ≤ a.toNat → a.toNat < 0xFF80 →
      a.toNat ∉ [0xFF00, 0xFF04, 0xFF05, 0xFF06, 0xFF07, 0xFF0F, 0xFF46] → (s.params.cgb = true → a ≠ 0xFF70) →
      read8 s a = Config.ioOracle a s.env.ioWrites s.env.ioReads ∧
      ((s.params.cgb = true ∧ a = 0xFF4F → v.getLsbD 0 = false) →
        write8 s a v = { s with env := { s.env with ioWrites := { addr := a, value := v } :: s.env.ioWrites } })

/-! ## Cartridge -/

/-- R222 to R225: MBC1: its four register windows, its two ROM windows and its RAM window. -/
def Obligations.Mbc1Registers : Prop :=
  ∀ (s : State) (m : Machine.Mbc1) (a : Word), s.cart.mbc = .mbc1 m →
    let n := a.toNat
    let becomes := fun (m' : Machine.Mbc1) => { s with cart := { s.cart with mbc := .mbc1 m' } }
    (∀ v : Byte,
      (n < 0x2000 → write8 s a v = becomes { m with ramEnabled := decide (v.toNat % 16 = 10) }) ∧
      (0x2000 ≤ n → n < 0x4000 → ∃ r : BitVec 5, r.toNat = (if v.toNat % 32 = 0 then 1 else v.toNat % 32) ∧
        write8 s a v = becomes { m with romReg := r }) ∧
      (0x4000 ≤ n → n < 0x6000 → ∃ r : BitVec 2, r.toNat = v.toNat % 4 ∧ write8 s a v = becomes { m with ramReg := r }) ∧
      (0x6000 ≤ n → n < 0x8000 → write8 s a v = becomes { m with mode := decide (v.toNat % 2 = 1) })) ∧
    (n < 0x4000 → read8 s a =
      s.cart.rom.read ((if m.mode then (m.ramReg.toNat * 32) &&& s.cart.romMask else 0) * 0x4000 + n)) ∧
    (0x4000 ≤ n → n < 0x8000 → read8 s a =
      s.cart.rom.read (((if m.mode then m.romReg.toNat else m.ramReg.toNat * 32 + m.romReg.toNat) &&& s.cart.romMask) * 0x4000 +
        (n - 0x4000))) ∧
    (0xA000 ≤ n → n < 0xC000 →
      (m.ramEnabled = false → RamWindowClosed s a) ∧
      (m.ramEnabled = true → RamWindowAt s a
        ((if m.mode then min m.ramReg.toNat (s.cart.ramBankCount - 1) else 0) * 0x2000 + (n - 0xA000))))

/-- R231 to R233: MBC2: bit 8 of the address tells its two registers apart; RAM is 512 four-bit cells that repeat through the window and
read with the high nibble as ones. -/
def Obligations.Mbc2Registers : Prop :=
  ∀ (s : State) (m : Machine.Mbc2) (a : Word), s.cart.mbc = .mbc2 m →
    let n := a.toNat
    let becomes := fun (m' : Machine.Mbc2) => { s with cart := { s.cart with mbc := .mbc2 m' } }
    (∀ v : Byte,
      (n < 0x4000 → a.getLsbD 8 = false → write8 s a v = becomes { m with ramEnabled := decide (v.toNat % 16 = 10) }) ∧
      (n < 0x4000 → a.getLsbD 8 = true → ∃ r : BitVec 4, r.toNat = (if v.toNat % 16 = 0 then 1 else v.toNat % 16) ∧
        write8 s a v = becomes { m with romReg := r }) ∧
      (0x4000 ≤ n → n < 0x8000 → write8 s a v = s)) ∧
    (n < 0x4000 → read8 s a = s.cart.rom.read n) ∧
    (0x4000 ≤ n → n < 0x8000 → read8 s a =
      s.cart.rom.read ((m.romReg.toNat &&& s.cart.romMask) * 0x4000 + (n - 0x4000))) ∧
    (0xA000 ≤ n → n < 0xC000 →
      (m.ramEnabled = false → RamWindowClosed s a) ∧
      (m.ramEnabled = true → read8 s a = 0xF0 ||| m.cells.read ((n - 0xA000) % 512) ∧
        ∀ v : Byte, write8 s a v = becomes { m with cells := m.cells.write ((n - 0xA000) % 512) (v &&& 0x0F) }))

/-- R241 to R246: MBC3 and MBC30: the gate, the ROM register with the literal rule for 0, the RAM register, the latch sequence, the two ROM
windows, and the RAM window, which reaches an RTC register for 0x08 to 0x0C. -/
def Obligations.Mbc3Registers : Prop :=
  ∀ (s : State) (m : Machine.Mbc3) (a : Word), s.cart.mbc = .mbc3 m →
    let n := a.toNat
    let becomes := fun (m' : Machine.Mbc3) => { s with cart := { s.cart with mbc := .mbc3 m' } }
    let sel := 0x08 ≤ m.ramReg.toNat ∧ m.ramReg.toNat ≤ 0x0C
    (∀ v : Byte,
      (n < 0x2000 → write8 s a v = becomes { m with ramEnabled := decide (v.toNat % 16 = 10) }) ∧
      (0x2000 ≤ n → n < 0x4000 → ∃ r : Byte,
        r = (if v = 0 ∧ m.romBank &&& 0x60 = 0 then 1 else if m.wide then v else v &&& 0x7F) ∧
        write8 s a v = becomes { m with romReg := r, romBank := r &&& BitVec.ofNat 8 s.cart.romMask }) ∧
      (0x4000 ≤ n → n < 0x6000 → write8 s a v = becomes { m with ramReg := v }) ∧
      (0x6000 ≤ n → n < 0x8000 → write8 s a v =
        if v = 0 then becomes { m with latchArmed := true }
        else if v = 1 ∧ m.latchArmed = true then becomes { m with latchArmed := false, rtc := m.rtc.map (·.latch s.env.now) }
        else becomes { m with latchArmed := false })) ∧
    (n < 0x4000 → read8 s a = s.cart.rom.read n) ∧
    (0x4000 ≤ n → n < 0x8000 → read8 s a = s.cart.rom.read (m.romBank.toNat * 0x4000 + (n - 0x4000))) ∧
    (0xA000 ≤ n → n < 0xC000 →
      (m.ramEnabled = false → RamWindowClosed s a) ∧
      (m.ramEnabled = true → sel → m.rtc = none → RamWindowClosed s a) ∧
      (∀ r, m.ramEnabled = true → sel → m.rtc = some r → read8 s a = r.read s.env.now m.ramReg ∧
        ∀ v, write8 s a v = becomes { m with rtc := some (r.write s.env.now m.ramReg v) }) ∧
      (m.ramEnabled = true → ¬ sel → RamWindowAt s a
        (min m.ramReg.toNat (s.cart.ramBankCount - 1) * 0x2000 + (n - 0xA000))))

/-- R256 to R258, R218: MBC5: its register windows, its ROM windows and its RAM window; and the None controller, which has no register and
no gate. -/
def Obligations.Mbc5AndNone : Prop :=
  ∀ (s : State) (a : Word),
    let n := a.toNat
    (∀ m : Machine.Mbc5, s.cart.mbc = .mbc5 m →
      let becomes := fun (m' : Machine.Mbc5) => { s with cart := { s.cart with mbc := .mbc5 m' } }
      (∀ v : Byte,
        (n < 0x2000 → write8 s a v = becomes { m with ramEnabled := decide (v.toNat % 16 = 10) }) ∧
        (0x2000 ≤ n → n < 0x3000 → ∃ r : BitVec 9, r.toNat = m.romReg.toNat / 256 * 256 + v.toNat ∧
          write8 s a v = becomes { m with romReg := r }) ∧
        (0x3000 ≤ n → n < 0x4000 → ∃ r : BitVec 9, r.toNat = v.toNat % 2 * 256 + m.romReg.toNat % 256 ∧
          write8 s a v = becomes { m with romReg := r }) ∧
        (0x4000 ≤ n → n < 0x6000 → ∃ r : BitVec 4, r.toNat = v.toNat % 16 ∧ write8 s a v = becomes { m with ramReg := r }) ∧
        (0x6000 ≤ n → n < 0x8000 → write8 s a v = s)) ∧
      (n < 0x4000 → read8 s a = s.cart.rom.read n) ∧
      (0x4000 ≤ n → n < 0x8000 → read8 s a =
        s.cart.rom.read ((m.romReg.toNat &&& s.cart.romMask) * 0x4000 + (n - 0x4000))) ∧
      (0xA000 ≤ n → n < 0xC000 →
        (m.ramEnabled = false → RamWindowClosed s a) ∧
        (m.ramEnabled = true → RamWindowAt s a
          (min m.ramReg.toNat (s.cart.ramBankCount - 1) * 0x2000 + (n - 0xA000))))) ∧
    (s.cart.mbc = .none →
      (n < 0x8000 → read8 s a = s.cart.rom.read n ∧ ∀ v, write8 s a v = s) ∧
      (0xA000 ≤ n → n < 0xC000 → RamWindowAt s a (n - 0xA000)))

/-- R127, R213, R68: no step changes the ROM array, the bank counts, the RAM size, the battery flag or the parameters; and every
ROM address translates to an offset inside the 4 MiB array. -/
def Obligations.RomAndConfiguration : Prop :=
  (∀ s t : State, step s = .next t → t.cart.rom = s.cart.rom ∧ t.cart.romBankCount = s.cart.romBankCount ∧
    t.cart.ramSize = s.cart.ramSize ∧ t.cart.hasBattery = s.cart.hasBattery ∧ t.params = s.params ∧
    t.cart.mbc.clock.isSome = s.cart.mbc.clock.isSome ∧
    (match s.cart.mbc, t.cart.mbc with
      | .none, .none => True
      | .mbc1 _, .mbc1 _ => True
      | .mbc2 _, .mbc2 _ => True
      | .mbc3 m, .mbc3 m' => m'.wide = m.wide
      | .mbc5 _, .mbc5 _ => True
      | _, _ => False)) ∧
  ∀ (s : State) (a : Word), a.toNat < 0x8000 →
    read8 s a = s.cart.rom.read (s.cart.romOffset a) ∧ s.cart.romOffset a < 4194304

/-! ## The real-time clock -/

/-- R285, R283: normalising a running clock takes 512 days off its offset as often as it takes to bring the day number below 512, and sets the
overflow flag if that is at all; a halted clock is left alone. Doing it twice is doing it once. -/
def Obligations.RtcNormalise : Prop :=
  ∀ (r : Rtc) (now : Nat),
    let n := r.normalise now
    (r.halted = true → n = r) ∧
    (r.halted = false → n.current now / 86400 < 512 ∧
      (r.current now / 86400 < 512 → n = r) ∧
      (512 ≤ r.current now / 86400 → 0 ≤ n.current now ∧ ∃ k : Nat,
        n = { r with timestampOffset := r.timestampOffset - k * (512 * 86400), overflow := true })) ∧
    n.normalise now = n

/-- R289, R283, R284, R286, R287: what each RTC register reads, from the snapshot while halted, else from the running time at the latch or, where
none was taken, now. -/
def Obligations.RtcRead : Prop :=
  ∀ (r : Rtc) (now : Nat),
    let n := r.normalise now
    let t := n.latchTimestamp.getD (now : Int) - n.startTimestamp + n.timestampOffset
    let d : Int := if n.halted then n.snapD.toNat else t / 86400 % 512
    ((r.read now 0x08).toNat : Int) = (if n.halted then (n.snapS.toNat : Int) else t % 60) ∧
    ((r.read now 0x09).toNat : Int) = (if n.halted then (n.snapM.toNat : Int) else t / 60 % 60) ∧
    ((r.read now 0x0A).toNat : Int) = (if n.halted then (n.snapH.toNat : Int) else t / 3600 % 24) ∧
    ((r.read now 0x0B).toNat : Int) = d % 256 ∧
    ((r.read now 0x0C).toNat : Int) = (if n.overflow then 128 else 0) + (if n.halted then 64 else 0) + d / 256

/-- R290, R292: seconds, minutes and hours are written while the clock is halted only, masked to their widths. DL is always written; on a running
clock it moves the day counter and keeps the other fields and the day's bit 8. -/
def Obligations.RtcWriteTime : Prop :=
  ∀ (r : Rtc) (now : Nat) (v : Byte),
    let n := r.normalise now
    (n.halted = false → r.write now 0x08 v = n ∧ r.write now 0x09 v = n ∧ r.write now 0x0A v = n ∧
      ∃ w : Rtc, r.write now 0x0B v = w ∧ w = { n with timestampOffset := w.timestampOffset } ∧
        w.current now % 86400 = n.current now % 86400 ∧
        w.current now / 86400 % 512 = n.current now / 86400 % 512 / 256 * 256 + (v.toNat : Int)) ∧
    (n.halted = true →
      (∃ w : BitVec 6, w.toNat = v.toNat % 64 ∧ r.write now 0x08 v = { n with snapS := w }) ∧
      (∃ w : BitVec 6, w.toNat = v.toNat % 64 ∧ r.write now 0x09 v = { n with snapM := w }) ∧
      (∃ w : BitVec 5, w.toNat = v.toNat % 32 ∧ r.write now 0x0A v = { n with snapH := w }) ∧
      ∃ w : BitVec 9, w.toNat = n.snapD.toNat / 256 * 256 + v.toNat ∧ r.write now 0x0B v = { n with snapD := w })

/-- R291, R293, R294: a DH write sets the overflow flag from bit 7, the halt flag from bit 6 and day bit 8 from bit 0 (resuming from a
snapshot that holds out-of-range hours can carry into the day). Halting and resuming with no time between, with the day bit and the
overflow bit as they were, leaves all five registers reading as before; a second latch at the same time reads the same. -/
def Obligations.RtcHaltAndLatch : Prop :=
  ∀ (r : Rtc) (now : Nat),
    let n := r.normalise now
    (∀ v : Byte, (r.write now 0x0C v).overflow = v.getLsbD 7 ∧ (r.write now 0x0C v).halted = v.getLsbD 6 ∧
      (v.getLsbD 6 = true ∨ r.halted = false → ((r.write now 0x0C v).daysNow now).getLsbD 8 = v.getLsbD 0)) ∧
    (r.halted = false → ∀ v : Byte, v.getLsbD 7 = n.overflow → v.getLsbD 6 = false →
      v.getLsbD 0 = (n.daysNow now).getLsbD 8 → ∀ sel ∈ [0x08, 0x09, 0x0A, 0x0B, 0x0C],
        ((r.write now 0x0C (v ||| 0x40)).write now 0x0C v).read now sel = r.read now sel) ∧
    ∀ sel : Byte, ((r.latch now).latch now).read now sel = (r.latch now).read now sel

/-! ## Loading and reset -/

/-- R204, R202, R206, R209: the checks of a load in their order, each with its status; only Loaded yields a machine. -/
def Obligations.LoadStatusOrder : Prop :=
  ∀ q : LoadRequest, ((load q).2.isSome = true ↔ loadStatus q = .loaded) ∧
    (q.stream = none → loadStatus q = .romFileNotReadable) ∧
    ∀ image, q.stream = some image →
      let n := image.length
      let kind := (headerByte image 0x0147).toNat
      let rom := (headerByte image 0x0148).toNat
      let ram := (headerByte image 0x0149).toNat
      let known := [0x00, 0x01, 0x02, 0x03, 0x05, 0x06, 0x08, 0x09, 0x0F, 0x10, 0x11, 0x12, 0x13, 0x19, 0x1A, 0x1B, 0x1C, 0x1D, 0x1E]
      let sizeBad := q.strictSize = true ∧ n ≠ 32768 * 2 ^ rom
      (4194304 < n → loadStatus q = .romTooBig) ∧
      (n < 0x0150 → loadStatus q = .romParseError) ∧
      (0x0150 ≤ n → n ≤ 4194304 →
        (7 < rom → loadStatus q = .romParseError) ∧
        (rom ≤ 7 → sizeBad → loadStatus q = .romSizeMismatch) ∧
        (rom ≤ 7 → ¬ sizeBad → kind ∉ known → loadStatus q = .romUnsupportedMbc) ∧
        (rom ≤ 7 → ¬ sizeBad → kind ∈ known → 5 < ram → loadStatus q = .ramSizeUnsupported) ∧
        (rom ≤ 7 → ¬ sizeBad → kind ∈ known → ram ≤ 5 → loadStatus q = .loaded))

/-- R661, R690, R203, R205, R207, R208, R210: the state right after reset with a loaded cartridge: the registers of the DMG or the CGB column, the I/O and
timer registers, the controller's registers, the cartridge's sizes and its ROM contents. The draws and the
host inputs are arguments of the request. That the state holds the inputs of its first bus cycle as sampled is the model's choice (log 11). -/
def Obligations.ResetState : Prop :=
  ∀ (q : LoadRequest) (image : List Byte) (s : State), q.stream = some image → (load q).2 = some s →
    let rom := (headerByte image 0x0148).toNat
    let ram := (headerByte image 0x0149).toNat
    let kind := (headerByte image 0x0147).toNat
    let clock : Rtc :=
      { startTimestamp := q.now
        timestampOffset := 0
        halted := false
        snapS := 0
        snapM := 0
        snapH := 0
        snapD := 0
        latchTimestamp := none
        overflow := false }
    s.params = q.params ∧
    s.regs = (if q.params.cgb then
        { a := 0x11, f := 0x80, b := 0x00, c := 0x00, d := 0xFF, e := 0x56, h := 0x00, l := 0x0D, sp := 0xFFFE, pc := 0x0100 }
      else
        { a := 0x01, f := 0xB0, b := 0x00, c := 0x13, d := 0x00, e := 0xD8, h := 0x01, l := 0x4D, sp := 0xFFFE, pc := 0x0100 }) ∧
    (s.eng.ime = .disabled ∧ s.eng.run = .running ∧ s.eng.haltBug = false ∧ s.eng.queue = [] ∧ s.eng.qi = 0 ∧
      s.eng.fault = none) ∧
    (s.intr.flags = 0x01 ∧ s.intr.ie = 0x00 ∧ read8 s 0xFF0F = 0xE1) ∧
    (s.timer.sys = q.sys &&& 0xFFFC ∧ s.timer.tima = 0x00 ∧ s.timer.tma = 0x00 ∧ s.timer.tac = 0 ∧ s.timer.signal = false ∧
      s.timer.reloadPending = false) ∧
    (s.joy.sel = 0x00 ∧ s.joy.lastLines = 0xF ∧ s.mem.svbk = 0) ∧
    (s.dma.reg = 0xFF ∧ s.dma.active = false ∧ s.dma.started = false ∧ s.dma.idx = 0) ∧
    (∀ i later, q.inputs = i :: later → s.env.keys = i.keys ∧ s.env.extIrq = i.extIrq ∧ s.env.now = q.now + i.elapsed ∧
      s.env.inputs = later) ∧
    (s.cart.romBankCount = (max (32768 * 2 ^ rom) image.length + 0x3FFF) / 0x4000 ∧
      (∃ k : Nat, s.cart.romMask + 1 = 2 ^ k ∧ s.cart.romBankCount ≤ 2 ^ k ∧ ∀ j : Nat, s.cart.romBankCount ≤ 2 ^ j → k ≤ j) ∧
      ∀ k, k < image.length → s.cart.rom.read k = image.getD k 0) ∧
    s.cart.ramSize =
      (if kind = 0x05 ∨ kind = 0x06 then 0
      else if ram = 0 ∧ kind ∈ [0x02, 0x03, 0x08, 0x09, 0x10, 0x12, 0x13, 0x1A, 0x1B, 0x1D, 0x1E] then 8192
      else [0, 2048, 8192, 32768, 131072, 65536].getD ram 0) ∧
    (match s.cart.mbc with
      | .none => kind ∈ [0x00, 0x08, 0x09]
      | .mbc1 m => kind ∈ [0x01, 0x02, 0x03] ∧ m = { ramEnabled := false, romReg := 1, ramReg := 0, mode := false }
      | .mbc2 m => kind ∈ [0x05, 0x06] ∧ m.ramEnabled = false ∧ m.romReg = 1
      | .mbc3 m => kind ∈ [0x0F, 0x10, 0x11, 0x12, 0x13] ∧ m.ramEnabled = false ∧ m.romReg = 1 ∧ m.romBank = 1 ∧ m.ramReg = 0 ∧
          m.latchArmed = false ∧ (m.rtc.isSome = true ↔ kind = 0x0F ∨ kind = 0x10) ∧
          (m.wide = true ↔ 128 < s.cart.romBankCount ∨ ram = 5) ∧
          (q.savedClock = none → ∀ r, m.rtc = some r → r = clock)
      | .mbc5 m => kind ∈ [0x19, 0x1A, 0x1B, 0x1C, 0x1D, 0x1E] ∧ m = { ramEnabled := false, romReg := 1, ramReg := 0 }) ∧
    s.ok = true

/-- The invariant holds in the state right after reset, the one that log 6 to log 10 choose. -/
def Obligations.ResetOk : Prop := State.reset.ok = true

/-! ## Encoding -/

/-- R321, R326, R329, R331: decoding the bytes of a row gives the row back with all its operands, whatever bytes follow, for every row but the
prefix alone; and whatever a list of bytes decodes to, it begins with exactly the bytes of that row. -/
def Obligations.DecodeEncode : Prop :=
  (∀ (i : Instr) (rest : List Byte), i.isWhole = true → decode (encode i ++ rest) = .ok (i, rest)) ∧
  ∀ (bytes rest : List Byte) (i : Instr), decode bytes = .ok (i, rest) → bytes = encode i ++ rest

/-- R326, R328, R329: words written out from the spec's maps decode to their instructions, and the eleven illegal opcodes are those of R328. -/
def Obligations.DecodeWords : Prop :=
  decode [0x41] = .ok (.LD_B_C, []) ∧
  decode [0x01, 0x34, 0x12] = .ok (.LD_BC_nn 0x1234, []) ∧
  decode [0xE0, 0x80, 0x00] = .ok (.LDH_mn_A 0x80, [0x00]) ∧
  decode [0x20, 0xFE] = .ok (.JR_NZ_e 0xFE, []) ∧
  decode [0x96] = .ok (.SUB_A_mHL, []) ∧
  decode [0x39] = .ok (.ADD_HL_SP, []) ∧
  decode [0xF1] = .ok (.POP_AF, []) ∧
  decode [0xCB, 0x37] = .ok (.SWAP_A, []) ∧
  decode [0xCB, 0x66] = .ok (.BIT_4_mHL, []) ∧
  decode [0xFF] = .ok (.RST_38H, []) ∧
  decode [0x76] = .ok (.HALT, []) ∧
  ∀ (op : Byte) (rest : List Byte), op ∈ [0xD3, 0xDB, 0xDD, 0xE3, 0xE4, 0xEB, 0xEC, 0xED, 0xF4, 0xFC, 0xFD] ↔
    ∃ i, decode (op :: rest) = .ok (i, rest) ∧ i.illegalOpcode = some op

/-! ## The step -/

/-- R365, R366, R321: the step of a running CPU checks for an interrupt, then runs the instruction that the bytes read at PC decode to, on the
state in which they have been read: the opcode in this bus cycle, each further byte in its own. PC moves past them, but for the opcode byte
where that fetch consumes the HALT bug. A state with a fault has no further step, nor has one after a refused write (R131). -/
def Obligations.StepRunsDecoded : Prop :=
  (∀ (s : State) (op : Byte) (a : Word), s.eng.fault = some (op, a) → step s = .fault (.illegalOpcode op a s)) ∧
  (∀ s : State, s.eng.fault = none →
    (s.vbkRefused = true ∨ (s.eng.run = .running ∧ (dispatchCheck s).vbkRefused = true)) → step s = .refused .vramBank1) ∧
  ∀ (s : State) (i : Instr) (rest : List Byte), s.eng.fault = none → s.vbkRefused = false → s.eng.run = .running →
    let t := dispatchCheck s
    let k := (encode i).length - 1
    t.vbkRefused = false → i.isWhole = true → decode [fetchedByte 0 t, fetchedByte 1 t, fetchedByte 2 t] = .ok (i, rest) →
    step s = exec i (bytesRead k t) ∧
    (bytesRead k t).regs = { t.regs with pc := t.regs.pc + BitVec.ofNat 16 (if t.eng.haltBug then k else k + 1) } ∧
    (bytesRead k t).eng.haltBug = false ∧ (bytesRead k t).eng.ctx.addr = t.regs.pc ∧ (bytesRead k t).vbkRefused = false

/-- R149, R150, R673: the bytes of an instruction are what the memory holds at PC and after it, wherever time alone does not change it; under the
HALT bug the byte at PC is the opcode and the next byte as well. Reading them changes no such byte. -/
def Obligations.CodeBytes : Prop :=
  ∀ (s : State) (n : Nat),
    ((∀ k, k ≤ n → steady s (s.regs.pc + BitVec.ofNat 16 k) = true) →
      fetchedByte n s = read8 s (s.regs.pc + BitVec.ofNat 16 (if s.eng.haltBug then n - 1 else n))) ∧
    ∀ b, steady s b = true → read8 (bytesRead n s) b = read8 s b

/-- R327, R330, R371: the length of every instruction in bytes and the number of its bus cycles, which a conditional one takes from its condition:
`exec` adds the bus cycles after those that read its bytes. That STOP stands with length 1 for both values of STOP_LENGTH, where R327 gives
it STOP_LENGTH, is the model's choice: its micro-op reads the second byte (log 26, DEDUCED). -/
def Obligations.CycleCounts : Prop :=
  ∀ (i : Instr) (s t : State), i.wellFormed = true → exec i s = .next t →
    (encode i).length = (lengthAndCycles (encode i) s.regs.f).1 ∧
    t.env.cycle + ((encode i).length - 1) = s.env.cycle + (lengthAndCycles (encode i) s.regs.f).2

/-- Every step keeps the invariant: the storage arrays stay in canonical form and of their sizes, F's low nibble stays zero, SYS counts in fours,
the DMA index, the queue and the controller's registers stay in range. -/
def Obligations.StepKeepsOk : Prop := ∀ s t : State, s.ok = true → step s = .next t → t.ok = true

/-- R361, R362, R365, R371: an instruction-grained step is exactly the spec's bus cycles, as many as `env.cycle` has counted: completing
the bus cycle in which the step began and then running that many whole bus cycles gives what completing the bus cycle in which the
step ended gives. A fault and a refusal are those of the bus cycles. -/
def Obligations.StepIsBusCycles : Prop :=
  ∀ (s : State), s.ok = true →
    (∀ t, step s = .next t → busCycles (t.env.cycle - s.env.cycle) (closeCycle s) = closeCycle t) ∧
    (∀ f, step s = .fault f → closeCycle s = .fault f) ∧
    ∀ r, step s = .refused r → ∃ n, busCycles n (closeCycle s) = .refused r

end
end

