-- ==== Sys2Proof/Laws/Memory.lean ====
section
/-! SUPPORT. The laws of the storage arrays: read after write, and that every operation keeps the canonical form. -/

namespace Sys2Proof.Machine

/-! ## Read after write -/

theorem Memory.read_erase_same (m : Memory) (a : Nat) : (m.erase a).read a = 0 := by
  induction m with
  | nil => rfl
  | cons c rest ih =>
    obtain ⟨k, b⟩ := c
    by_cases h : k = a <;> simp [Memory.erase, Memory.read, h, ih]

theorem Memory.read_erase_other (m : Memory) {a x : Nat} (h : x ≠ a) : (m.erase a).read x = m.read x := by
  induction m with
  | nil => rfl
  | cons c rest ih =>
    obtain ⟨k, b⟩ := c
    by_cases hk : k = a
    · have : k ≠ x := fun e => h (e ▸ hk)
      simp [Memory.erase, Memory.read, hk, ih, Ne.symm h]
    · simp [Memory.erase, Memory.read, hk, ih]

/-- The array lists no byte at `a`. -/
def Memory.unlisted (m : Memory) (a : Nat) : Prop := ∀ c ∈ m, c.1 ≠ a

theorem Memory.erase_unlisted (m : Memory) (a : Nat) : (m.erase a).unlisted a := by
  induction m with
  | nil => intro c hc; cases hc
  | cons c rest ih =>
    obtain ⟨k, b⟩ := c
    by_cases h : k = a
    · simpa [Memory.erase, h] using ih
    · intro c hc
      simp only [Memory.erase, h, if_false, List.mem_cons] at hc
      rcases hc with rfl | hc
      · exact h
      · exact ih c hc

theorem Memory.read_place_same (m : Memory) (a : Nat) (v : Byte) (h : m.unlisted a) : (Memory.place m a v).read a = v := by
  induction m with
  | nil => simp [Memory.place, Memory.read]
  | cons c rest ih =>
    obtain ⟨k, b⟩ := c
    have hk : k ≠ a := h (k, b) (by simp)
    by_cases hlt : a < k
    · simp [Memory.place, Memory.read, hlt]
    · simp [Memory.place, Memory.read, hlt, hk, ih fun c hc => h c (by simp [hc])]

theorem Memory.read_place_other (m : Memory) {a x : Nat} (v : Byte) (h : x ≠ a) :
    (Memory.place m a v).read x = m.read x := by
  induction m with
  | nil => simp [Memory.place, Memory.read, Ne.symm h]
  | cons c rest ih =>
    obtain ⟨k, b⟩ := c
    by_cases hlt : a < k
    · simp [Memory.place, Memory.read, hlt, Ne.symm h]
    · simp [Memory.place, Memory.read, hlt, ih]

/-- A read after a write to the same offset gives the value written. -/
@[simp] theorem Memory.read_write_same (m : Memory) (a : Nat) (v : Byte) : (m.write a v).read a = v := by
  unfold Memory.write
  split
  · next h => rw [h, Memory.read_erase_same]
  · exact Memory.read_place_same _ _ _ (Memory.erase_unlisted m a)

/-- A write leaves every other offset alone. -/
theorem Memory.read_write_other (m : Memory) {a x : Nat} (v : Byte) (h : x ≠ a) : (m.write a v).read x = m.read x := by
  unfold Memory.write
  split
  · exact Memory.read_erase_other m h
  · rw [Memory.read_place_other _ _ h, Memory.read_erase_other m h]

/-! ## The canonical form -/

theorem Memory.wfFrom_cons {size lo k : Nat} {b : Byte} {rest : Memory} :
    Memory.wfFrom size lo ((k, b) :: rest) = true ↔ lo ≤ k ∧ k < size ∧ b ≠ 0 ∧ Memory.wfFrom size (k + 1) rest = true := by
  simp [Memory.wfFrom, and_assoc]

theorem Memory.wfFrom_weaken {size lo lo' : Nat} {m : Memory} (h : Memory.wfFrom size lo m = true) (hl : lo' ≤ lo) :
    Memory.wfFrom size lo' m = true := by
  cases m with
  | nil => rfl
  | cons c rest =>
    obtain ⟨k, b⟩ := c
    rw [Memory.wfFrom_cons] at h ⊢
    exact ⟨by omega, h.2⟩

theorem Memory.wfFrom_erase {size lo : Nat} {m : Memory} (a : Nat) (h : Memory.wfFrom size lo m = true) :
    Memory.wfFrom size lo (m.erase a) = true := by
  induction m generalizing lo with
  | nil => rfl
  | cons c rest ih =>
    obtain ⟨k, b⟩ := c
    rw [Memory.wfFrom_cons] at h
    by_cases hk : k = a
    · simp only [Memory.erase, hk, if_true]
      exact ih (Memory.wfFrom_weaken h.2.2.2 (by omega))
    · simp only [Memory.erase, hk, if_false]
      rw [Memory.wfFrom_cons]
      exact ⟨h.1, h.2.1, h.2.2.1, ih h.2.2.2⟩

theorem Memory.wfFrom_place {size lo a : Nat} {m : Memory} {v : Byte} (h : Memory.wfFrom size lo m = true)
    (hu : m.unlisted a) (hlo : lo ≤ a) (ha : a < size) (hv : v ≠ 0) : Memory.wfFrom size lo (Memory.place m a v) = true := by
  induction m generalizing lo with
  | nil => exact Memory.wfFrom_cons.mpr ⟨hlo, ha, hv, rfl⟩
  | cons c rest ih =>
    obtain ⟨k, b⟩ := c
    have hk : k ≠ a := hu (k, b) (by simp)
    rw [Memory.wfFrom_cons] at h
    by_cases hlt : a < k
    · simp only [Memory.place, hlt, if_true]
      rw [Memory.wfFrom_cons, Memory.wfFrom_cons]
      exact ⟨hlo, ha, hv, by omega, h.2⟩
    · simp only [Memory.place, hlt, if_false]
      rw [Memory.wfFrom_cons]
      exact ⟨h.1, h.2.1, h.2.2.1, ih h.2.2.2 (fun c hc => hu c (by simp [hc])) (by omega)⟩

/-- A write inside the array keeps the canonical form. -/
theorem Memory.wf_write {size : Nat} {m : Memory} (a : Nat) (v : Byte) (h : m.wf size = true) (ha : a < size) :
    (m.write a v).wf size = true := by
  unfold Memory.write
  split
  · exact Memory.wfFrom_erase a h
  · next hv => exact Memory.wfFrom_place (Memory.wfFrom_erase a h) (Memory.erase_unlisted m a) (Nat.zero_le a) ha hv

theorem Memory.wf_foldl_write {size : Nat} (cells : List Host.Cell) (m : Memory) (h : m.wf size = true) :
    Memory.wf size (cells.foldl (fun m c => if c.1 < size then m.write c.1 c.2 else m) m) = true := by
  induction cells generalizing m with
  | nil => exact h
  | cons c rest ih =>
    refine ih _ ?_
    dsimp only
    split
    · next hc => exact Memory.wf_write _ _ h hc
    · exact h

/-- An array built from listed bytes is in canonical form. -/
theorem Memory.wf_ofCells (size : Nat) (cells : List Host.Cell) : (Memory.ofCells size cells).wf size = true :=
  Memory.wf_foldl_write cells [] rfl

theorem Memory.wfFrom_ofBytes (size start : Nat) (bytes : List Byte) (h : start + bytes.length ≤ size) :
    Memory.wfFrom size start (Memory.ofBytes start bytes) = true := by
  induction bytes generalizing start with
  | nil => rfl
  | cons b rest ih =>
    simp only [List.length_cons] at h
    have hr := ih (start + 1) (by omega)
    by_cases hb : b = 0
    · simp only [Memory.ofBytes, hb, if_true]
      exact Memory.wfFrom_weaken hr (by omega)
    · simp only [Memory.ofBytes, hb, if_false]
      rw [Memory.wfFrom_cons]
      exact ⟨Nat.le_refl _, by omega, hb, hr⟩

/-- A property of the listed bytes survives a write of a byte that has it. -/
theorem Memory.all_write {p : Host.Cell → Bool} {m : Memory} (a : Nat) (v : Byte) (h : m.all p = true) (hv : p (a, v) = true) :
    (m.write a v).all p = true := by
  have he : (m.erase a).all p = true := by
    induction m with
    | nil => rfl
    | cons c rest ih =>
      obtain ⟨k, b⟩ := c
      simp only [List.all_cons, Bool.and_eq_true] at h
      by_cases hk : k = a
      · simpa [Memory.erase, hk] using ih h.2
      · simp only [Memory.erase, hk, if_false, List.all_cons, Bool.and_eq_true]
        exact ⟨h.1, ih h.2⟩
  unfold Memory.write
  split
  · exact he
  · clear h
    generalize m.erase a = n at he
    induction n with
    | nil => simpa [Memory.place] using hv
    | cons c rest ih =>
      obtain ⟨k, b⟩ := c
      simp only [List.all_cons, Bool.and_eq_true] at he
      by_cases hlt : a < k
      · simp only [Memory.place, hlt, if_true, List.all_cons, Bool.and_eq_true]
        exact ⟨hv, he⟩
      · simp only [Memory.place, hlt, if_false, List.all_cons, Bool.and_eq_true]
        exact ⟨he.1, ih he.2⟩

end Sys2Proof.Machine
end

