-- ==== Sys2Proof/Laws/State.lean ====
section
/-! SUPPORT. One lemma per field per update of the state, each true by definition, so that no proof unfolds an update. -/

namespace Sys2Proof.Machine

/-! Registers by name -/

@[simp] theorem Regs.get_b (r : Regs) : r.get .b = r.b := rfl
@[simp] theorem Regs.set_b (r : Regs) (v : Byte) : r.set .b v = { r with b := v } := rfl
@[simp] theorem Regs.get_c (r : Regs) : r.get .c = r.c := rfl
@[simp] theorem Regs.set_c (r : Regs) (v : Byte) : r.set .c v = { r with c := v } := rfl
@[simp] theorem Regs.get_d (r : Regs) : r.get .d = r.d := rfl
@[simp] theorem Regs.set_d (r : Regs) (v : Byte) : r.set .d v = { r with d := v } := rfl
@[simp] theorem Regs.get_e (r : Regs) : r.get .e = r.e := rfl
@[simp] theorem Regs.set_e (r : Regs) (v : Byte) : r.set .e v = { r with e := v } := rfl
@[simp] theorem Regs.get_h (r : Regs) : r.get .h = r.h := rfl
@[simp] theorem Regs.set_h (r : Regs) (v : Byte) : r.set .h v = { r with h := v } := rfl
@[simp] theorem Regs.get_l (r : Regs) : r.get .l = r.l := rfl
@[simp] theorem Regs.set_l (r : Regs) (v : Byte) : r.set .l v = { r with l := v } := rfl
@[simp] theorem Regs.get_a (r : Regs) : r.get .a = r.a := rfl
@[simp] theorem Regs.set_a (r : Regs) (v : Byte) : r.set .a v = { r with a := v } := rfl
@[simp] theorem Regs.set_keeps_f (r : Regs) (x : Reg8) (v : Byte) : (r.set x v).f = r.f := by cases x <;> rfl
@[simp] theorem Regs.set_keeps_sp (r : Regs) (x : Reg8) (v : Byte) : (r.set x v).sp = r.sp := by cases x <;> rfl
@[simp] theorem Regs.set_keeps_pc (r : Regs) (x : Reg8) (v : Byte) : (r.set x v).pc = r.pc := by cases x <;> rfl

/-! `setRegs`: the register file only -/

@[simp] theorem setRegs_regs (s : State) (f : Regs → Regs) : (setRegs s f).regs = f s.regs := rfl
@[simp] theorem setRegs_eng (s : State) (f : Regs → Regs) : (setRegs s f).eng = s.eng := rfl
@[simp] theorem setRegs_intr (s : State) (f : Regs → Regs) : (setRegs s f).intr = s.intr := rfl
@[simp] theorem setRegs_timer (s : State) (f : Regs → Regs) : (setRegs s f).timer = s.timer := rfl
@[simp] theorem setRegs_joy (s : State) (f : Regs → Regs) : (setRegs s f).joy = s.joy := rfl
@[simp] theorem setRegs_dma (s : State) (f : Regs → Regs) : (setRegs s f).dma = s.dma := rfl
@[simp] theorem setRegs_mem (s : State) (f : Regs → Regs) : (setRegs s f).mem = s.mem := rfl
@[simp] theorem setRegs_cart (s : State) (f : Regs → Regs) : (setRegs s f).cart = s.cart := rfl
@[simp] theorem setRegs_env (s : State) (f : Regs → Regs) : (setRegs s f).env = s.env := rfl
@[simp] theorem setRegs_params (s : State) (f : Regs → Regs) : (setRegs s f).params = s.params := rfl
@[simp] theorem setRegs_vbkRefused (s : State) (f : Regs → Regs) : (setRegs s f).vbkRefused = s.vbkRefused := rfl

/-! `setCtx`: the operand latches only -/

@[simp] theorem setCtx_regs (s : State) (f : Ctx → Ctx) : (setCtx s f).regs = s.regs := rfl
@[simp] theorem setCtx_eng_ctx (s : State) (f : Ctx → Ctx) : (setCtx s f).eng.ctx = f s.eng.ctx := rfl
@[simp] theorem setCtx_eng_ime (s : State) (f : Ctx → Ctx) : (setCtx s f).eng.ime = s.eng.ime := rfl
@[simp] theorem setCtx_eng_run (s : State) (f : Ctx → Ctx) : (setCtx s f).eng.run = s.eng.run := rfl
@[simp] theorem setCtx_eng_haltBug (s : State) (f : Ctx → Ctx) : (setCtx s f).eng.haltBug = s.eng.haltBug := rfl
@[simp] theorem setCtx_eng_queue (s : State) (f : Ctx → Ctx) : (setCtx s f).eng.queue = s.eng.queue := rfl
@[simp] theorem setCtx_eng_qi (s : State) (f : Ctx → Ctx) : (setCtx s f).eng.qi = s.eng.qi := rfl
@[simp] theorem setCtx_eng_fault (s : State) (f : Ctx → Ctx) : (setCtx s f).eng.fault = s.eng.fault := rfl
@[simp] theorem setCtx_intr (s : State) (f : Ctx → Ctx) : (setCtx s f).intr = s.intr := rfl
@[simp] theorem setCtx_timer (s : State) (f : Ctx → Ctx) : (setCtx s f).timer = s.timer := rfl
@[simp] theorem setCtx_joy (s : State) (f : Ctx → Ctx) : (setCtx s f).joy = s.joy := rfl
@[simp] theorem setCtx_dma (s : State) (f : Ctx → Ctx) : (setCtx s f).dma = s.dma := rfl
@[simp] theorem setCtx_mem (s : State) (f : Ctx → Ctx) : (setCtx s f).mem = s.mem := rfl
@[simp] theorem setCtx_cart (s : State) (f : Ctx → Ctx) : (setCtx s f).cart = s.cart := rfl
@[simp] theorem setCtx_env (s : State) (f : Ctx → Ctx) : (setCtx s f).env = s.env := rfl
@[simp] theorem setCtx_params (s : State) (f : Ctx → Ctx) : (setCtx s f).params = s.params := rfl
@[simp] theorem setCtx_vbkRefused (s : State) (f : Ctx → Ctx) : (setCtx s f).vbkRefused = s.vbkRefused := rfl

/-! `setIme`: IME only -/

@[simp] theorem setIme_regs (s : State) (v : Ime) : (setIme s v).regs = s.regs := rfl
@[simp] theorem setIme_eng_ctx (s : State) (v : Ime) : (setIme s v).eng.ctx = s.eng.ctx := rfl
@[simp] theorem setIme_eng_ime (s : State) (v : Ime) : (setIme s v).eng.ime = v := rfl
@[simp] theorem setIme_eng_run (s : State) (v : Ime) : (setIme s v).eng.run = s.eng.run := rfl
@[simp] theorem setIme_eng_haltBug (s : State) (v : Ime) : (setIme s v).eng.haltBug = s.eng.haltBug := rfl
@[simp] theorem setIme_eng_queue (s : State) (v : Ime) : (setIme s v).eng.queue = s.eng.queue := rfl
@[simp] theorem setIme_eng_qi (s : State) (v : Ime) : (setIme s v).eng.qi = s.eng.qi := rfl
@[simp] theorem setIme_eng_fault (s : State) (v : Ime) : (setIme s v).eng.fault = s.eng.fault := rfl
@[simp] theorem setIme_intr (s : State) (v : Ime) : (setIme s v).intr = s.intr := rfl
@[simp] theorem setIme_timer (s : State) (v : Ime) : (setIme s v).timer = s.timer := rfl
@[simp] theorem setIme_joy (s : State) (v : Ime) : (setIme s v).joy = s.joy := rfl
@[simp] theorem setIme_dma (s : State) (v : Ime) : (setIme s v).dma = s.dma := rfl
@[simp] theorem setIme_mem (s : State) (v : Ime) : (setIme s v).mem = s.mem := rfl
@[simp] theorem setIme_cart (s : State) (v : Ime) : (setIme s v).cart = s.cart := rfl
@[simp] theorem setIme_env (s : State) (v : Ime) : (setIme s v).env = s.env := rfl
@[simp] theorem setIme_params (s : State) (v : Ime) : (setIme s v).params = s.params := rfl
@[simp] theorem setIme_vbkRefused (s : State) (v : Ime) : (setIme s v).vbkRefused = s.vbkRefused := rfl

/-! `setPc`: PC only -/

@[simp] theorem setPc_regs_a (s : State) (v : Word) : (setPc s v).regs.a = s.regs.a := rfl
@[simp] theorem setPc_regs_f (s : State) (v : Word) : (setPc s v).regs.f = s.regs.f := rfl
@[simp] theorem setPc_regs_b (s : State) (v : Word) : (setPc s v).regs.b = s.regs.b := rfl
@[simp] theorem setPc_regs_c (s : State) (v : Word) : (setPc s v).regs.c = s.regs.c := rfl
@[simp] theorem setPc_regs_d (s : State) (v : Word) : (setPc s v).regs.d = s.regs.d := rfl
@[simp] theorem setPc_regs_e (s : State) (v : Word) : (setPc s v).regs.e = s.regs.e := rfl
@[simp] theorem setPc_regs_h (s : State) (v : Word) : (setPc s v).regs.h = s.regs.h := rfl
@[simp] theorem setPc_regs_l (s : State) (v : Word) : (setPc s v).regs.l = s.regs.l := rfl
@[simp] theorem setPc_regs_sp (s : State) (v : Word) : (setPc s v).regs.sp = s.regs.sp := rfl
@[simp] theorem setPc_regs_pc (s : State) (v : Word) : (setPc s v).regs.pc = v := rfl
@[simp] theorem setPc_eng (s : State) (v : Word) : (setPc s v).eng = s.eng := rfl
@[simp] theorem setPc_intr (s : State) (v : Word) : (setPc s v).intr = s.intr := rfl
@[simp] theorem setPc_timer (s : State) (v : Word) : (setPc s v).timer = s.timer := rfl
@[simp] theorem setPc_joy (s : State) (v : Word) : (setPc s v).joy = s.joy := rfl
@[simp] theorem setPc_dma (s : State) (v : Word) : (setPc s v).dma = s.dma := rfl
@[simp] theorem setPc_mem (s : State) (v : Word) : (setPc s v).mem = s.mem := rfl
@[simp] theorem setPc_cart (s : State) (v : Word) : (setPc s v).cart = s.cart := rfl
@[simp] theorem setPc_env (s : State) (v : Word) : (setPc s v).env = s.env := rfl
@[simp] theorem setPc_params (s : State) (v : Word) : (setPc s v).params = s.params := rfl
@[simp] theorem setPc_vbkRefused (s : State) (v : Word) : (setPc s v).vbkRefused = s.vbkRefused := rfl

/-! `setSp`: SP only -/

@[simp] theorem setSp_regs_a (s : State) (v : Word) : (setSp s v).regs.a = s.regs.a := rfl
@[simp] theorem setSp_regs_f (s : State) (v : Word) : (setSp s v).regs.f = s.regs.f := rfl
@[simp] theorem setSp_regs_b (s : State) (v : Word) : (setSp s v).regs.b = s.regs.b := rfl
@[simp] theorem setSp_regs_c (s : State) (v : Word) : (setSp s v).regs.c = s.regs.c := rfl
@[simp] theorem setSp_regs_d (s : State) (v : Word) : (setSp s v).regs.d = s.regs.d := rfl
@[simp] theorem setSp_regs_e (s : State) (v : Word) : (setSp s v).regs.e = s.regs.e := rfl
@[simp] theorem setSp_regs_h (s : State) (v : Word) : (setSp s v).regs.h = s.regs.h := rfl
@[simp] theorem setSp_regs_l (s : State) (v : Word) : (setSp s v).regs.l = s.regs.l := rfl
@[simp] theorem setSp_regs_sp (s : State) (v : Word) : (setSp s v).regs.sp = v := rfl
@[simp] theorem setSp_regs_pc (s : State) (v : Word) : (setSp s v).regs.pc = s.regs.pc := rfl
@[simp] theorem setSp_eng (s : State) (v : Word) : (setSp s v).eng = s.eng := rfl
@[simp] theorem setSp_intr (s : State) (v : Word) : (setSp s v).intr = s.intr := rfl
@[simp] theorem setSp_timer (s : State) (v : Word) : (setSp s v).timer = s.timer := rfl
@[simp] theorem setSp_joy (s : State) (v : Word) : (setSp s v).joy = s.joy := rfl
@[simp] theorem setSp_dma (s : State) (v : Word) : (setSp s v).dma = s.dma := rfl
@[simp] theorem setSp_mem (s : State) (v : Word) : (setSp s v).mem = s.mem := rfl
@[simp] theorem setSp_cart (s : State) (v : Word) : (setSp s v).cart = s.cart := rfl
@[simp] theorem setSp_env (s : State) (v : Word) : (setSp s v).env = s.env := rfl
@[simp] theorem setSp_params (s : State) (v : Word) : (setSp s v).params = s.params := rfl
@[simp] theorem setSp_vbkRefused (s : State) (v : Word) : (setSp s v).vbkRefused = s.vbkRefused := rfl

/-! `withQueue`: the queue only -/

@[simp] theorem withQueue_regs (s : State) (ops : List Micro) (k : Nat) : (withQueue s ops k).regs = s.regs := rfl
@[simp] theorem withQueue_eng_ctx (s : State) (ops : List Micro) (k : Nat) : (withQueue s ops k).eng.ctx = s.eng.ctx := rfl
@[simp] theorem withQueue_eng_ime (s : State) (ops : List Micro) (k : Nat) : (withQueue s ops k).eng.ime = s.eng.ime := rfl
@[simp] theorem withQueue_eng_run (s : State) (ops : List Micro) (k : Nat) : (withQueue s ops k).eng.run = s.eng.run := rfl
@[simp] theorem withQueue_eng_haltBug (s : State) (ops : List Micro) (k : Nat) : (withQueue s ops k).eng.haltBug = s.eng.haltBug := rfl
@[simp] theorem withQueue_eng_queue (s : State) (ops : List Micro) (k : Nat) : (withQueue s ops k).eng.queue = ops := rfl
@[simp] theorem withQueue_eng_qi (s : State) (ops : List Micro) (k : Nat) : (withQueue s ops k).eng.qi = k := rfl
@[simp] theorem withQueue_eng_fault (s : State) (ops : List Micro) (k : Nat) : (withQueue s ops k).eng.fault = s.eng.fault := rfl
@[simp] theorem withQueue_intr (s : State) (ops : List Micro) (k : Nat) : (withQueue s ops k).intr = s.intr := rfl
@[simp] theorem withQueue_timer (s : State) (ops : List Micro) (k : Nat) : (withQueue s ops k).timer = s.timer := rfl
@[simp] theorem withQueue_joy (s : State) (ops : List Micro) (k : Nat) : (withQueue s ops k).joy = s.joy := rfl
@[simp] theorem withQueue_dma (s : State) (ops : List Micro) (k : Nat) : (withQueue s ops k).dma = s.dma := rfl
@[simp] theorem withQueue_mem (s : State) (ops : List Micro) (k : Nat) : (withQueue s ops k).mem = s.mem := rfl
@[simp] theorem withQueue_cart (s : State) (ops : List Micro) (k : Nat) : (withQueue s ops k).cart = s.cart := rfl
@[simp] theorem withQueue_env (s : State) (ops : List Micro) (k : Nat) : (withQueue s ops k).env = s.env := rfl
@[simp] theorem withQueue_params (s : State) (ops : List Micro) (k : Nat) : (withQueue s ops k).params = s.params := rfl
@[simp] theorem withQueue_vbkRefused (s : State) (ops : List Micro) (k : Nat) : (withQueue s ops k).vbkRefused = s.vbkRefused := rfl

/-! `withTmp`: one latch only -/

@[simp] theorem withTmp_regs (n : Byte) (s : State) : (withTmp n s).regs = s.regs := rfl
@[simp] theorem withTmp_eng_ctx (n : Byte) (s : State) : (withTmp n s).eng.ctx = s.eng.ctx.latch .tmp n := rfl
@[simp] theorem withTmp_eng_ime (n : Byte) (s : State) : (withTmp n s).eng.ime = s.eng.ime := rfl
@[simp] theorem withTmp_eng_run (n : Byte) (s : State) : (withTmp n s).eng.run = s.eng.run := rfl
@[simp] theorem withTmp_eng_haltBug (n : Byte) (s : State) : (withTmp n s).eng.haltBug = s.eng.haltBug := rfl
@[simp] theorem withTmp_eng_queue (n : Byte) (s : State) : (withTmp n s).eng.queue = s.eng.queue := rfl
@[simp] theorem withTmp_eng_qi (n : Byte) (s : State) : (withTmp n s).eng.qi = s.eng.qi := rfl
@[simp] theorem withTmp_eng_fault (n : Byte) (s : State) : (withTmp n s).eng.fault = s.eng.fault := rfl
@[simp] theorem withTmp_intr (n : Byte) (s : State) : (withTmp n s).intr = s.intr := rfl
@[simp] theorem withTmp_timer (n : Byte) (s : State) : (withTmp n s).timer = s.timer := rfl
@[simp] theorem withTmp_joy (n : Byte) (s : State) : (withTmp n s).joy = s.joy := rfl
@[simp] theorem withTmp_dma (n : Byte) (s : State) : (withTmp n s).dma = s.dma := rfl
@[simp] theorem withTmp_mem (n : Byte) (s : State) : (withTmp n s).mem = s.mem := rfl
@[simp] theorem withTmp_cart (n : Byte) (s : State) : (withTmp n s).cart = s.cart := rfl
@[simp] theorem withTmp_env (n : Byte) (s : State) : (withTmp n s).env = s.env := rfl
@[simp] theorem withTmp_params (n : Byte) (s : State) : (withTmp n s).params = s.params := rfl
@[simp] theorem withTmp_vbkRefused (n : Byte) (s : State) : (withTmp n s).vbkRefused = s.vbkRefused := rfl

/-! `withLsb`: one latch only -/

@[simp] theorem withLsb_regs (n : Byte) (s : State) : (withLsb n s).regs = s.regs := rfl
@[simp] theorem withLsb_eng_ctx (n : Byte) (s : State) : (withLsb n s).eng.ctx = s.eng.ctx.latch .lsb n := rfl
@[simp] theorem withLsb_eng_ime (n : Byte) (s : State) : (withLsb n s).eng.ime = s.eng.ime := rfl
@[simp] theorem withLsb_eng_run (n : Byte) (s : State) : (withLsb n s).eng.run = s.eng.run := rfl
@[simp] theorem withLsb_eng_haltBug (n : Byte) (s : State) : (withLsb n s).eng.haltBug = s.eng.haltBug := rfl
@[simp] theorem withLsb_eng_queue (n : Byte) (s : State) : (withLsb n s).eng.queue = s.eng.queue := rfl
@[simp] theorem withLsb_eng_qi (n : Byte) (s : State) : (withLsb n s).eng.qi = s.eng.qi := rfl
@[simp] theorem withLsb_eng_fault (n : Byte) (s : State) : (withLsb n s).eng.fault = s.eng.fault := rfl
@[simp] theorem withLsb_intr (n : Byte) (s : State) : (withLsb n s).intr = s.intr := rfl
@[simp] theorem withLsb_timer (n : Byte) (s : State) : (withLsb n s).timer = s.timer := rfl
@[simp] theorem withLsb_joy (n : Byte) (s : State) : (withLsb n s).joy = s.joy := rfl
@[simp] theorem withLsb_dma (n : Byte) (s : State) : (withLsb n s).dma = s.dma := rfl
@[simp] theorem withLsb_mem (n : Byte) (s : State) : (withLsb n s).mem = s.mem := rfl
@[simp] theorem withLsb_cart (n : Byte) (s : State) : (withLsb n s).cart = s.cart := rfl
@[simp] theorem withLsb_env (n : Byte) (s : State) : (withLsb n s).env = s.env := rfl
@[simp] theorem withLsb_params (n : Byte) (s : State) : (withLsb n s).params = s.params := rfl
@[simp] theorem withLsb_vbkRefused (n : Byte) (s : State) : (withLsb n s).vbkRefused = s.vbkRefused := rfl

/-! `withE`: one latch only -/

@[simp] theorem withE_regs (e : Byte) (s : State) : (withE e s).regs = s.regs := rfl
@[simp] theorem withE_eng_ctx (e : Byte) (s : State) : (withE e s).eng.ctx = s.eng.ctx.latch .e e := rfl
@[simp] theorem withE_eng_ime (e : Byte) (s : State) : (withE e s).eng.ime = s.eng.ime := rfl
@[simp] theorem withE_eng_run (e : Byte) (s : State) : (withE e s).eng.run = s.eng.run := rfl
@[simp] theorem withE_eng_haltBug (e : Byte) (s : State) : (withE e s).eng.haltBug = s.eng.haltBug := rfl
@[simp] theorem withE_eng_queue (e : Byte) (s : State) : (withE e s).eng.queue = s.eng.queue := rfl
@[simp] theorem withE_eng_qi (e : Byte) (s : State) : (withE e s).eng.qi = s.eng.qi := rfl
@[simp] theorem withE_eng_fault (e : Byte) (s : State) : (withE e s).eng.fault = s.eng.fault := rfl
@[simp] theorem withE_intr (e : Byte) (s : State) : (withE e s).intr = s.intr := rfl
@[simp] theorem withE_timer (e : Byte) (s : State) : (withE e s).timer = s.timer := rfl
@[simp] theorem withE_joy (e : Byte) (s : State) : (withE e s).joy = s.joy := rfl
@[simp] theorem withE_dma (e : Byte) (s : State) : (withE e s).dma = s.dma := rfl
@[simp] theorem withE_mem (e : Byte) (s : State) : (withE e s).mem = s.mem := rfl
@[simp] theorem withE_cart (e : Byte) (s : State) : (withE e s).cart = s.cart := rfl
@[simp] theorem withE_env (e : Byte) (s : State) : (withE e s).env = s.env := rfl
@[simp] theorem withE_params (e : Byte) (s : State) : (withE e s).params = s.params := rfl
@[simp] theorem withE_vbkRefused (e : Byte) (s : State) : (withE e s).vbkRefused = s.vbkRefused := rfl

/-! `withNn`: two latches only -/

@[simp] theorem withNn_regs (nn : Word) (s : State) : (withNn nn s).regs = s.regs := rfl
@[simp] theorem withNn_eng_ctx (nn : Word) (s : State) : (withNn nn s).eng.ctx = (s.eng.ctx.latch .lsb (lowByte nn)).latch .msb (highByte nn) := rfl
@[simp] theorem withNn_eng_ime (nn : Word) (s : State) : (withNn nn s).eng.ime = s.eng.ime := rfl
@[simp] theorem withNn_eng_run (nn : Word) (s : State) : (withNn nn s).eng.run = s.eng.run := rfl
@[simp] theorem withNn_eng_haltBug (nn : Word) (s : State) : (withNn nn s).eng.haltBug = s.eng.haltBug := rfl
@[simp] theorem withNn_eng_queue (nn : Word) (s : State) : (withNn nn s).eng.queue = s.eng.queue := rfl
@[simp] theorem withNn_eng_qi (nn : Word) (s : State) : (withNn nn s).eng.qi = s.eng.qi := rfl
@[simp] theorem withNn_eng_fault (nn : Word) (s : State) : (withNn nn s).eng.fault = s.eng.fault := rfl
@[simp] theorem withNn_intr (nn : Word) (s : State) : (withNn nn s).intr = s.intr := rfl
@[simp] theorem withNn_timer (nn : Word) (s : State) : (withNn nn s).timer = s.timer := rfl
@[simp] theorem withNn_joy (nn : Word) (s : State) : (withNn nn s).joy = s.joy := rfl
@[simp] theorem withNn_dma (nn : Word) (s : State) : (withNn nn s).dma = s.dma := rfl
@[simp] theorem withNn_mem (nn : Word) (s : State) : (withNn nn s).mem = s.mem := rfl
@[simp] theorem withNn_cart (nn : Word) (s : State) : (withNn nn s).cart = s.cart := rfl
@[simp] theorem withNn_env (nn : Word) (s : State) : (withNn nn s).env = s.env := rfl
@[simp] theorem withNn_params (nn : Word) (s : State) : (withNn nn s).params = s.params := rfl
@[simp] theorem withNn_vbkRefused (nn : Word) (s : State) : (withNn nn s).vbkRefused = s.vbkRefused := rfl

/-! `logAccess`: the list of bus accesses only -/

@[simp] theorem logAccess_regs (s : State) (w : Bool) (a : Word) (v : Byte) : (logAccess s w a v).regs = s.regs := rfl
@[simp] theorem logAccess_eng (s : State) (w : Bool) (a : Word) (v : Byte) : (logAccess s w a v).eng = s.eng := rfl
@[simp] theorem logAccess_intr (s : State) (w : Bool) (a : Word) (v : Byte) : (logAccess s w a v).intr = s.intr := rfl
@[simp] theorem logAccess_timer (s : State) (w : Bool) (a : Word) (v : Byte) : (logAccess s w a v).timer = s.timer := rfl
@[simp] theorem logAccess_joy (s : State) (w : Bool) (a : Word) (v : Byte) : (logAccess s w a v).joy = s.joy := rfl
@[simp] theorem logAccess_dma (s : State) (w : Bool) (a : Word) (v : Byte) : (logAccess s w a v).dma = s.dma := rfl
@[simp] theorem logAccess_mem (s : State) (w : Bool) (a : Word) (v : Byte) : (logAccess s w a v).mem = s.mem := rfl
@[simp] theorem logAccess_cart (s : State) (w : Bool) (a : Word) (v : Byte) : (logAccess s w a v).cart = s.cart := rfl
@[simp] theorem logAccess_env_inputs (s : State) (w : Bool) (a : Word) (v : Byte) : (logAccess s w a v).env.inputs = s.env.inputs := rfl
@[simp] theorem logAccess_env_keys (s : State) (w : Bool) (a : Word) (v : Byte) : (logAccess s w a v).env.keys = s.env.keys := rfl
@[simp] theorem logAccess_env_extIrq (s : State) (w : Bool) (a : Word) (v : Byte) : (logAccess s w a v).env.extIrq = s.env.extIrq := rfl
@[simp] theorem logAccess_env_now (s : State) (w : Bool) (a : Word) (v : Byte) : (logAccess s w a v).env.now = s.env.now := rfl
@[simp] theorem logAccess_env_cycle (s : State) (w : Bool) (a : Word) (v : Byte) : (logAccess s w a v).env.cycle = s.env.cycle := rfl
@[simp] theorem logAccess_env_ioReads (s : State) (w : Bool) (a : Word) (v : Byte) : (logAccess s w a v).env.ioReads = s.env.ioReads := rfl
@[simp] theorem logAccess_env_ioWrites (s : State) (w : Bool) (a : Word) (v : Byte) : (logAccess s w a v).env.ioWrites = s.env.ioWrites := rfl
@[simp] theorem logAccess_env_bus (s : State) (w : Bool) (a : Word) (v : Byte) : (logAccess s w a v).env.bus = { cycle := s.env.cycle, write := w, addr := a, value := v } :: s.env.bus := rfl
@[simp] theorem logAccess_params (s : State) (w : Bool) (a : Word) (v : Byte) : (logAccess s w a v).params = s.params := rfl
@[simp] theorem logAccess_vbkRefused (s : State) (w : Bool) (a : Word) (v : Byte) : (logAccess s w a v).vbkRefused = s.vbkRefused := rfl

/-! `afterRead`: the clock and the history of draws only (R139) -/

@[simp] theorem afterRead_regs (s : State) (a : Word) : (afterRead s a).regs = s.regs := rfl
@[simp] theorem afterRead_eng (s : State) (a : Word) : (afterRead s a).eng = s.eng := rfl
@[simp] theorem afterRead_intr (s : State) (a : Word) : (afterRead s a).intr = s.intr := rfl
@[simp] theorem afterRead_timer (s : State) (a : Word) : (afterRead s a).timer = s.timer := rfl
@[simp] theorem afterRead_joy (s : State) (a : Word) : (afterRead s a).joy = s.joy := rfl
@[simp] theorem afterRead_dma (s : State) (a : Word) : (afterRead s a).dma = s.dma := rfl
@[simp] theorem afterRead_mem (s : State) (a : Word) : (afterRead s a).mem = s.mem := rfl
theorem afterRead_cart (s : State) (a : Word) : (afterRead s a).cart = if region a = .cartRam then s.cart.afterReadRam s.env.now (ramIndex a) else s.cart := rfl
@[simp] theorem afterRead_env_inputs (s : State) (a : Word) : (afterRead s a).env.inputs = s.env.inputs := rfl
@[simp] theorem afterRead_env_keys (s : State) (a : Word) : (afterRead s a).env.keys = s.env.keys := rfl
@[simp] theorem afterRead_env_extIrq (s : State) (a : Word) : (afterRead s a).env.extIrq = s.env.extIrq := rfl
@[simp] theorem afterRead_env_now (s : State) (a : Word) : (afterRead s a).env.now = s.env.now := rfl
@[simp] theorem afterRead_env_cycle (s : State) (a : Word) : (afterRead s a).env.cycle = s.env.cycle := rfl
@[simp] theorem afterRead_env_ioReads (s : State) (a : Word) : (afterRead s a).env.ioReads = if readsCollaborator s.params.cgb a then s.env.ioReads + 1 else s.env.ioReads := rfl
@[simp] theorem afterRead_env_ioWrites (s : State) (a : Word) : (afterRead s a).env.ioWrites = s.env.ioWrites := rfl
@[simp] theorem afterRead_env_bus (s : State) (a : Word) : (afterRead s a).env.bus = s.env.bus := rfl
@[simp] theorem afterRead_params (s : State) (a : Word) : (afterRead s a).params = s.params := rfl
@[simp] theorem afterRead_vbkRefused (s : State) (a : Word) : (afterRead s a).vbkRefused = s.vbkRefused := rfl

/-! `memRead`: as a read, and one bus access -/

@[simp] theorem memRead_regs (s : State) (a : Word) : (memRead s a).regs = s.regs := rfl
@[simp] theorem memRead_eng (s : State) (a : Word) : (memRead s a).eng = s.eng := rfl
@[simp] theorem memRead_intr (s : State) (a : Word) : (memRead s a).intr = s.intr := rfl
@[simp] theorem memRead_timer (s : State) (a : Word) : (memRead s a).timer = s.timer := rfl
@[simp] theorem memRead_joy (s : State) (a : Word) : (memRead s a).joy = s.joy := rfl
@[simp] theorem memRead_dma (s : State) (a : Word) : (memRead s a).dma = s.dma := rfl
@[simp] theorem memRead_mem (s : State) (a : Word) : (memRead s a).mem = s.mem := rfl
@[simp] theorem memRead_cart (s : State) (a : Word) : (memRead s a).cart = (afterRead s a).cart := rfl
@[simp] theorem memRead_env_inputs (s : State) (a : Word) : (memRead s a).env.inputs = s.env.inputs := rfl
@[simp] theorem memRead_env_keys (s : State) (a : Word) : (memRead s a).env.keys = s.env.keys := rfl
@[simp] theorem memRead_env_extIrq (s : State) (a : Word) : (memRead s a).env.extIrq = s.env.extIrq := rfl
@[simp] theorem memRead_env_now (s : State) (a : Word) : (memRead s a).env.now = s.env.now := rfl
@[simp] theorem memRead_env_cycle (s : State) (a : Word) : (memRead s a).env.cycle = s.env.cycle := rfl
@[simp] theorem memRead_env_ioReads (s : State) (a : Word) : (memRead s a).env.ioReads = (afterRead s a).env.ioReads := rfl
@[simp] theorem memRead_env_ioWrites (s : State) (a : Word) : (memRead s a).env.ioWrites = s.env.ioWrites := rfl
@[simp] theorem memRead_env_bus (s : State) (a : Word) : (memRead s a).env.bus = { cycle := s.env.cycle, write := false, addr := a, value := read8 s a } :: s.env.bus := rfl
@[simp] theorem memRead_params (s : State) (a : Word) : (memRead s a).params = s.params := rfl
@[simp] theorem memRead_vbkRefused (s : State) (a : Word) : (memRead s a).vbkRefused = s.vbkRefused := rfl

/-! `sampleInputs`: the host inputs only -/

@[simp] theorem sampleInputs_regs (s : State) : (sampleInputs s).regs = s.regs := rfl
@[simp] theorem sampleInputs_eng (s : State) : (sampleInputs s).eng = s.eng := rfl
@[simp] theorem sampleInputs_intr (s : State) : (sampleInputs s).intr = s.intr := rfl
@[simp] theorem sampleInputs_timer (s : State) : (sampleInputs s).timer = s.timer := rfl
@[simp] theorem sampleInputs_joy (s : State) : (sampleInputs s).joy = s.joy := rfl
@[simp] theorem sampleInputs_dma (s : State) : (sampleInputs s).dma = s.dma := rfl
@[simp] theorem sampleInputs_mem (s : State) : (sampleInputs s).mem = s.mem := rfl
@[simp] theorem sampleInputs_cart (s : State) : (sampleInputs s).cart = s.cart := rfl
@[simp] theorem sampleInputs_env_inputs (s : State) : (sampleInputs s).env.inputs = s.env.inputs.tail := rfl
@[simp] theorem sampleInputs_env_keys (s : State) : (sampleInputs s).env.keys = s.env.nextInput.keys := rfl
@[simp] theorem sampleInputs_env_extIrq (s : State) : (sampleInputs s).env.extIrq = s.env.nextInput.extIrq := rfl
@[simp] theorem sampleInputs_env_now (s : State) : (sampleInputs s).env.now = s.env.now + s.env.nextInput.elapsed := rfl
@[simp] theorem sampleInputs_env_cycle (s : State) : (sampleInputs s).env.cycle = s.env.cycle + 1 := rfl
@[simp] theorem sampleInputs_env_ioReads (s : State) : (sampleInputs s).env.ioReads = s.env.ioReads := rfl
@[simp] theorem sampleInputs_env_ioWrites (s : State) : (sampleInputs s).env.ioWrites = s.env.ioWrites := rfl
@[simp] theorem sampleInputs_env_bus (s : State) : (sampleInputs s).env.bus = s.env.bus := rfl
@[simp] theorem sampleInputs_params (s : State) : (sampleInputs s).params = s.params := rfl
@[simp] theorem sampleInputs_vbkRefused (s : State) : (sampleInputs s).vbkRefused = s.vbkRefused := rfl
/-! `Env.reset`: the inputs of the first bus cycle sampled, nothing read or written yet -/

@[simp] theorem hostInput_cons (i : HostInput) (later : List HostInput) (n : Nat) : hostInput (i :: later) n = i := rfl
@[simp] theorem hostInput_nil (n : Nat) : hostInput [] n = Config.freeInput n := rfl
@[simp] theorem Env.reset_inputs (now : Nat) (l : List HostInput) : (Env.reset now l).inputs = l.tail := rfl
@[simp] theorem Env.reset_keys (now : Nat) (l : List HostInput) : (Env.reset now l).keys = (hostInput l 0).keys := rfl
@[simp] theorem Env.reset_extIrq (now : Nat) (l : List HostInput) : (Env.reset now l).extIrq = (hostInput l 0).extIrq := rfl
@[simp] theorem Env.reset_now (now : Nat) (l : List HostInput) : (Env.reset now l).now = now + (hostInput l 0).elapsed := rfl
@[simp] theorem Env.reset_cycle (now : Nat) (l : List HostInput) : (Env.reset now l).cycle = 0 := rfl
@[simp] theorem Env.reset_ioReads (now : Nat) (l : List HostInput) : (Env.reset now l).ioReads = 0 := rfl
@[simp] theorem Env.reset_ioWrites (now : Nat) (l : List HostInput) : (Env.reset now l).ioWrites = [] := rfl
@[simp] theorem Env.reset_bus (now : Nat) (l : List HostInput) : (Env.reset now l).bus = [] := rfl


/-! `dmaPhase`: the DMA engine, OAM, and what its read does (R142) -/

@[simp] theorem dmaPhase_regs (s : State) : (dmaPhase s).regs = s.regs := rfl
@[simp] theorem dmaPhase_eng (s : State) : (dmaPhase s).eng = s.eng := rfl
@[simp] theorem dmaPhase_intr (s : State) : (dmaPhase s).intr = s.intr := rfl
@[simp] theorem dmaPhase_timer (s : State) : (dmaPhase s).timer = s.timer := rfl
@[simp] theorem dmaPhase_joy (s : State) : (dmaPhase s).joy = s.joy := rfl
@[simp] theorem dmaPhase_dma_reg (s : State) : (dmaPhase s).dma.reg = s.dma.reg := rfl
@[simp] theorem dmaPhase_dma_active (s : State) : (dmaPhase s).dma.active = if s.dma.copies ∧ s.dma.idx + 1 = 160 then false else s.dma.active := rfl
@[simp] theorem dmaPhase_dma_started (s : State) : (dmaPhase s).dma.started = (s.dma.started || s.dma.active) := rfl
@[simp] theorem dmaPhase_dma_src (s : State) : (dmaPhase s).dma.src = s.dma.src := rfl
@[simp] theorem dmaPhase_dma_idx (s : State) : (dmaPhase s).dma.idx = if s.dma.copies then s.dma.idx + 1 else s.dma.idx := rfl
@[simp] theorem dmaPhase_mem_wram (s : State) : (dmaPhase s).mem.wram = s.mem.wram := rfl
@[simp] theorem dmaPhase_mem_vram (s : State) : (dmaPhase s).mem.vram = s.mem.vram := rfl
@[simp] theorem dmaPhase_mem_oam (s : State) : (dmaPhase s).mem.oam = if s.dma.copies then s.mem.oam.write s.dma.idx (read8 s s.dma.source) else s.mem.oam := rfl
@[simp] theorem dmaPhase_mem_hram (s : State) : (dmaPhase s).mem.hram = s.mem.hram := rfl
@[simp] theorem dmaPhase_mem_svbk (s : State) : (dmaPhase s).mem.svbk = s.mem.svbk := rfl
@[simp] theorem dmaPhase_cart (s : State) : (dmaPhase s).cart = if s.dma.copies then (afterRead s s.dma.source).cart else s.cart := rfl
@[simp] theorem dmaPhase_env_inputs (s : State) : (dmaPhase s).env.inputs = s.env.inputs := rfl
@[simp] theorem dmaPhase_env_keys (s : State) : (dmaPhase s).env.keys = s.env.keys := rfl
@[simp] theorem dmaPhase_env_extIrq (s : State) : (dmaPhase s).env.extIrq = s.env.extIrq := rfl
@[simp] theorem dmaPhase_env_now (s : State) : (dmaPhase s).env.now = s.env.now := rfl
@[simp] theorem dmaPhase_env_cycle (s : State) : (dmaPhase s).env.cycle = s.env.cycle := rfl
@[simp] theorem dmaPhase_env_ioReads (s : State) : (dmaPhase s).env.ioReads = if s.dma.copies then (afterRead s s.dma.source).env.ioReads else s.env.ioReads := rfl
@[simp] theorem dmaPhase_env_ioWrites (s : State) : (dmaPhase s).env.ioWrites = s.env.ioWrites := rfl
@[simp] theorem dmaPhase_env_bus (s : State) : (dmaPhase s).env.bus = s.env.bus := rfl
@[simp] theorem dmaPhase_params (s : State) : (dmaPhase s).params = s.params := rfl
@[simp] theorem dmaPhase_vbkRefused (s : State) : (dmaPhase s).vbkRefused = s.vbkRefused := rfl

/-! `timerPhase`: the timer and its request (R621) -/

@[simp] theorem timerPhase_regs (s : State) : (timerPhase s).regs = s.regs := rfl
@[simp] theorem timerPhase_eng (s : State) : (timerPhase s).eng = s.eng := rfl
@[simp] theorem timerPhase_intr_flags (s : State) : (timerPhase s).intr.flags = if s.timer.reloadPending then s.intr.flags ||| 0b00100 else s.intr.flags := rfl
@[simp] theorem timerPhase_intr_ie (s : State) : (timerPhase s).intr.ie = s.intr.ie := rfl
@[simp] theorem timerPhase_timer (s : State) : (timerPhase s).timer = s.timer.advance := rfl
@[simp] theorem timerPhase_joy (s : State) : (timerPhase s).joy = s.joy := rfl
@[simp] theorem timerPhase_dma (s : State) : (timerPhase s).dma = s.dma := rfl
@[simp] theorem timerPhase_mem (s : State) : (timerPhase s).mem = s.mem := rfl
@[simp] theorem timerPhase_cart (s : State) : (timerPhase s).cart = s.cart := rfl
@[simp] theorem timerPhase_env (s : State) : (timerPhase s).env = s.env := rfl
@[simp] theorem timerPhase_params (s : State) : (timerPhase s).params = s.params := rfl
@[simp] theorem timerPhase_vbkRefused (s : State) : (timerPhase s).vbkRefused = s.vbkRefused := rfl

/-! `devicePhase`: the joypad detector and the collaborators (R631, R635) -/

@[simp] theorem devicePhase_regs (s : State) : (devicePhase s).regs = s.regs := rfl
@[simp] theorem devicePhase_eng_ctx (s : State) : (devicePhase s).eng.ctx = s.eng.ctx := rfl
@[simp] theorem devicePhase_eng_ime (s : State) : (devicePhase s).eng.ime = s.eng.ime := rfl
@[simp] theorem devicePhase_eng_haltBug (s : State) : (devicePhase s).eng.haltBug = s.eng.haltBug := rfl
@[simp] theorem devicePhase_eng_queue (s : State) : (devicePhase s).eng.queue = s.eng.queue := rfl
@[simp] theorem devicePhase_eng_qi (s : State) : (devicePhase s).eng.qi = s.eng.qi := rfl
@[simp] theorem devicePhase_eng_fault (s : State) : (devicePhase s).eng.fault = s.eng.fault := rfl
@[simp] theorem devicePhase_intr_flags (s : State) : (devicePhase s).intr.flags = (if keyEdge s then s.intr.flags ||| 0b10000 else s.intr.flags) ||| collaboratorRequests s := rfl
@[simp] theorem devicePhase_intr_ie (s : State) : (devicePhase s).intr.ie = s.intr.ie := rfl
@[simp] theorem devicePhase_timer (s : State) : (devicePhase s).timer = s.timer := rfl
@[simp] theorem devicePhase_joy_sel (s : State) : (devicePhase s).joy.sel = s.joy.sel := rfl
@[simp] theorem devicePhase_joy_lastLines (s : State) : (devicePhase s).joy.lastLines = lines s := rfl
@[simp] theorem devicePhase_dma (s : State) : (devicePhase s).dma = s.dma := rfl
@[simp] theorem devicePhase_mem (s : State) : (devicePhase s).mem = s.mem := rfl
@[simp] theorem devicePhase_cart (s : State) : (devicePhase s).cart = s.cart := rfl
@[simp] theorem devicePhase_env (s : State) : (devicePhase s).env = s.env := rfl
@[simp] theorem devicePhase_params (s : State) : (devicePhase s).params = s.params := rfl
@[simp] theorem devicePhase_vbkRefused (s : State) : (devicePhase s).vbkRefused = s.vbkRefused := rfl

/-! `tick`: what a bus cycle does beside the CPU -/

@[simp] theorem tick_regs (s : State) : (tick s).regs = s.regs := rfl
@[simp] theorem tick_eng_ctx (s : State) : (tick s).eng.ctx = s.eng.ctx := rfl
@[simp] theorem tick_eng_ime (s : State) : (tick s).eng.ime = s.eng.ime.advance := rfl
@[simp] theorem tick_eng_haltBug (s : State) : (tick s).eng.haltBug = s.eng.haltBug := rfl
@[simp] theorem tick_eng_queue (s : State) : (tick s).eng.queue = s.eng.queue := rfl
@[simp] theorem tick_eng_qi (s : State) : (tick s).eng.qi = s.eng.qi := rfl
@[simp] theorem tick_eng_fault (s : State) : (tick s).eng.fault = s.eng.fault := rfl
@[simp] theorem tick_intr_ie (s : State) : (tick s).intr.ie = s.intr.ie := rfl
@[simp] theorem tick_timer (s : State) : (tick s).timer = s.timer.advance := rfl
@[simp] theorem tick_joy_sel (s : State) : (tick s).joy.sel = s.joy.sel := rfl
@[simp] theorem tick_dma_reg (s : State) : (tick s).dma.reg = s.dma.reg := rfl
@[simp] theorem tick_dma_active (s : State) : (tick s).dma.active = if s.dma.copies ∧ s.dma.idx + 1 = 160 then false else s.dma.active := rfl
@[simp] theorem tick_dma_started (s : State) : (tick s).dma.started = (s.dma.started || s.dma.active) := rfl
@[simp] theorem tick_dma_src (s : State) : (tick s).dma.src = s.dma.src := rfl
@[simp] theorem tick_dma_idx (s : State) : (tick s).dma.idx = if s.dma.copies then s.dma.idx + 1 else s.dma.idx := rfl
@[simp] theorem tick_mem_wram (s : State) : (tick s).mem.wram = s.mem.wram := rfl
@[simp] theorem tick_mem_vram (s : State) : (tick s).mem.vram = s.mem.vram := rfl
@[simp] theorem tick_mem_oam (s : State) : (tick s).mem.oam = if s.dma.copies then s.mem.oam.write s.dma.idx (read8 s s.dma.source) else s.mem.oam := rfl
@[simp] theorem tick_mem_hram (s : State) : (tick s).mem.hram = s.mem.hram := rfl
@[simp] theorem tick_mem_svbk (s : State) : (tick s).mem.svbk = s.mem.svbk := rfl
@[simp] theorem tick_cart (s : State) : (tick s).cart = if s.dma.copies then (afterRead s s.dma.source).cart else s.cart := rfl
@[simp] theorem tick_env_inputs (s : State) : (tick s).env.inputs = s.env.inputs.tail := rfl
@[simp] theorem tick_env_keys (s : State) : (tick s).env.keys = s.env.nextInput.keys := rfl
@[simp] theorem tick_env_extIrq (s : State) : (tick s).env.extIrq = s.env.nextInput.extIrq := rfl
@[simp] theorem tick_env_now (s : State) : (tick s).env.now = s.env.now + s.env.nextInput.elapsed := rfl
@[simp] theorem tick_env_cycle (s : State) : (tick s).env.cycle = s.env.cycle + 1 := rfl
@[simp] theorem tick_env_ioReads (s : State) : (tick s).env.ioReads = if s.dma.copies then (afterRead s s.dma.source).env.ioReads else s.env.ioReads := rfl
@[simp] theorem tick_env_ioWrites (s : State) : (tick s).env.ioWrites = s.env.ioWrites := rfl
@[simp] theorem tick_env_bus (s : State) : (tick s).env.bus = s.env.bus := rfl
@[simp] theorem tick_params (s : State) : (tick s).params = s.params := rfl
@[simp] theorem tick_vbkRefused (s : State) : (tick s).vbkRefused = s.vbkRefused := rfl

end Sys2Proof.Machine
end

