-- ==== Sys2Proof/Laws/Mmu.lean ====
section
/-! SUPPORT. What the memory primitives can do, said once: what a read changes, what a write changes, and what neither can. -/

namespace Sys2Proof.Machine

/-! ## The RAM window -/

@[simp] theorem Mbc.mapClock_isSome_clock (b : Mbc) (f : Rtc → Rtc) : (b.mapClock f).clock.isSome = b.clock.isSome := by
  cases b <;> simp [Mbc.mapClock, Mbc.clock]

@[simp] theorem Cart.afterReadRam_rom (c : Cart) (now o : Nat) : (c.afterReadRam now o).rom = c.rom := by
  unfold Cart.afterReadRam; split <;> rfl
@[simp] theorem Cart.afterReadRam_ram (c : Cart) (now o : Nat) : (c.afterReadRam now o).ram = c.ram := by
  unfold Cart.afterReadRam; split <;> rfl
@[simp] theorem Cart.afterReadRam_romBankCount (c : Cart) (now o : Nat) :
    (c.afterReadRam now o).romBankCount = c.romBankCount := by
  unfold Cart.afterReadRam; split <;> rfl
@[simp] theorem Cart.afterReadRam_ramSize (c : Cart) (now o : Nat) : (c.afterReadRam now o).ramSize = c.ramSize := by
  unfold Cart.afterReadRam; split <;> rfl
@[simp] theorem Cart.afterReadRam_hasBattery (c : Cart) (now o : Nat) : (c.afterReadRam now o).hasBattery = c.hasBattery := by
  unfold Cart.afterReadRam; split <;> rfl

/-- A read of the RAM window changes the controller by at most the normalisation of its clock (R139, R285). -/
theorem Cart.afterReadRam_mbc (c : Cart) (now o : Nat) :
    (c.afterReadRam now o).mbc = c.mbc ∨ (c.afterReadRam now o).mbc = c.mbc.mapClock (·.normalise now) := by
  unfold Cart.afterReadRam; split <;> simp

/-- Changing the clock moves no bank. -/
theorem Cart.romOffset_mapClock (c : Cart) (f : Rtc → Rtc) (a : Word) :
    ({ c with mbc := c.mbc.mapClock f } : Cart).romOffset a = c.romOffset a := by
  obtain ⟨rom, ram, banks, size, bat, mbc⟩ := c
  cases mbc <;> rfl

/-- Changing the clock moves no RAM target. -/
theorem Cart.ramTarget_mapClock (c : Cart) (f : Rtc → Rtc) (o : Nat) :
    ({ c with mbc := c.mbc.mapClock f } : Cart).ramTarget o = c.ramTarget o := by
  obtain ⟨rom, ram, banks, size, bat, mbc⟩ := c
  cases mbc with
  | mbc3 m => obtain ⟨w, en, rr, rb, ra, mo, la, rtc⟩ := m; cases rtc <;> rfl
  | none => rfl
  | mbc1 m => rfl
  | mbc2 m => rfl
  | mbc5 m => rfl

@[simp] theorem Mbc.cells_mapClock (b : Mbc) (f : Rtc → Rtc) : (b.mapClock f).cells = b.cells := by cases b <;> rfl

@[simp] theorem Cart.romOffset_afterReadRam (c : Cart) (now o : Nat) (a : Word) :
    (c.afterReadRam now o).romOffset a = c.romOffset a := by
  unfold Cart.afterReadRam; split
  · rfl
  · rfl
  · rfl
  · exact Cart.romOffset_mapClock c _ a

@[simp] theorem Cart.ramTarget_afterReadRam (c : Cart) (now o p : Nat) :
    (c.afterReadRam now o).ramTarget p = c.ramTarget p := by
  unfold Cart.afterReadRam; split
  · rfl
  · rfl
  · rfl
  · exact Cart.ramTarget_mapClock c _ p

@[simp] theorem Cart.cells_afterReadRam (c : Cart) (now o : Nat) : (c.afterReadRam now o).mbc.cells = c.mbc.cells := by
  unfold Cart.afterReadRam; split <;> simp

/-! ## Reads -/

@[simp] theorem afterRead_cart_rom (s : State) (a : Word) : (afterRead s a).cart.rom = s.cart.rom := by
  simp only [afterRead_cart]; split <;> simp
@[simp] theorem afterRead_cart_ram (s : State) (a : Word) : (afterRead s a).cart.ram = s.cart.ram := by
  simp only [afterRead_cart]; split <;> simp
@[simp] theorem afterRead_cart_ramSize (s : State) (a : Word) : (afterRead s a).cart.ramSize = s.cart.ramSize := by
  simp only [afterRead_cart]; split <;> simp
@[simp] theorem afterRead_cart_romBankCount (s : State) (a : Word) :
    (afterRead s a).cart.romBankCount = s.cart.romBankCount := by
  simp only [afterRead_cart]; split <;> simp
@[simp] theorem afterRead_cart_hasBattery (s : State) (a : Word) : (afterRead s a).cart.hasBattery = s.cart.hasBattery := by
  simp only [afterRead_cart]; split <;> simp
@[simp] theorem afterRead_romOffset (s : State) (a b : Word) : (afterRead s a).cart.romOffset b = s.cart.romOffset b := by
  simp only [afterRead_cart]; split <;> simp
@[simp] theorem afterRead_ramTarget (s : State) (a : Word) (o : Nat) :
    (afterRead s a).cart.ramTarget o = s.cart.ramTarget o := by
  simp only [afterRead_cart]; split <;> simp
@[simp] theorem afterRead_cells (s : State) (a : Word) : (afterRead s a).cart.mbc.cells = s.cart.mbc.cells := by
  simp only [afterRead_cart]; split <;> simp

/-! ## Writes -/

section Write8
variable (s : State) (a : Word) (v : Byte)

theorem writeIo_cases (p : State → Prop)
    (h : ∀ joy timer intr dma mem env b, mem.wram = s.mem.wram → mem.vram = s.mem.vram → mem.oam = s.mem.oam →
      mem.hram = s.mem.hram → env = { s.env with ioWrites := env.ioWrites } →
      p { s with joy := joy, timer := timer, intr := intr, dma := dma, mem := mem, env := env, vbkRefused := b }) :
    p (writeIo s a v) := by
  unfold writeIo
  split
  · exact h _ s.timer s.intr s.dma s.mem s.env s.vbkRefused rfl rfl rfl rfl rfl
  · exact h s.joy _ s.intr s.dma s.mem s.env s.vbkRefused rfl rfl rfl rfl rfl
  · exact h s.joy _ s.intr s.dma s.mem s.env s.vbkRefused rfl rfl rfl rfl rfl
  · exact h s.joy _ s.intr s.dma s.mem s.env s.vbkRefused rfl rfl rfl rfl rfl
  · exact h s.joy _ s.intr s.dma s.mem s.env s.vbkRefused rfl rfl rfl rfl rfl
  · exact h s.joy s.timer _ s.dma s.mem s.env s.vbkRefused rfl rfl rfl rfl rfl
  · exact h s.joy s.timer s.intr _ s.mem s.env s.vbkRefused rfl rfl rfl rfl rfl
  · exact h s.joy s.timer s.intr s.dma { s.mem with svbk := _ } s.env s.vbkRefused rfl rfl rfl rfl rfl
  · split
    · exact h s.joy s.timer s.intr s.dma s.mem s.env true rfl rfl rfl rfl rfl
    · exact h s.joy s.timer s.intr s.dma s.mem { s.env with ioWrites := _ } s.vbkRefused rfl rfl rfl rfl rfl
  · exact h s.joy s.timer s.intr s.dma s.mem { s.env with ioWrites := _ } s.vbkRefused rfl rfl rfl rfl rfl

/-- Everything a write can change: one region's storage or registers. The register file, the engine, the parameters and the host's
inputs are never among it. -/
theorem write8_cases (p : State → Prop)
    (hcart : ∀ c, p { s with cart := c }) (hmem : ∀ m, p { s with mem := m }) (hie : ∀ i, p { s with intr := i })
    (hio : ∀ joy timer intr dma mem env b, mem.wram = s.mem.wram → mem.vram = s.mem.vram → mem.oam = s.mem.oam →
      mem.hram = s.mem.hram → env = { s.env with ioWrites := env.ioWrites } →
      p { s with joy := joy, timer := timer, intr := intr, dma := dma, mem := mem, env := env, vbkRefused := b }) :
    p (write8 s a v) := by
  unfold write8 writeWram
  split
  · exact hcart _
  · exact hmem _
  · exact hcart _
  · exact hmem _
  · exact hmem _
  · exact hmem _
  · exact hmem s.mem
  · exact writeIo_cases s a v p hio
  · exact hmem _
  · exact hie _

@[simp] theorem write8_regs : (write8 s a v).regs = s.regs :=
  write8_cases s a v (fun t => t.regs = s.regs) (fun _ => rfl) (fun _ => rfl) (fun _ => rfl) (by intros; rfl)
@[simp] theorem write8_eng : (write8 s a v).eng = s.eng :=
  write8_cases s a v (fun t => t.eng = s.eng) (fun _ => rfl) (fun _ => rfl) (fun _ => rfl) (by intros; rfl)
@[simp] theorem write8_params : (write8 s a v).params = s.params :=
  write8_cases s a v (fun t => t.params = s.params) (fun _ => rfl) (fun _ => rfl) (fun _ => rfl) (by intros; rfl)
/-- A write touches nothing of the host's side but the list of IoWrite events. -/
theorem write8_env : (write8 s a v).env = { s.env with ioWrites := (write8 s a v).env.ioWrites } :=
  write8_cases s a v (fun t => t.env = { s.env with ioWrites := t.env.ioWrites })
    (fun _ => rfl) (fun _ => rfl) (fun _ => rfl) (by intros; assumption)
@[simp] theorem write8_inputs : (write8 s a v).env.inputs = s.env.inputs := by rw [write8_env]
@[simp] theorem write8_keys : (write8 s a v).env.keys = s.env.keys := by rw [write8_env]
@[simp] theorem write8_extIrq : (write8 s a v).env.extIrq = s.env.extIrq := by rw [write8_env]
@[simp] theorem write8_now : (write8 s a v).env.now = s.env.now := by rw [write8_env]
@[simp] theorem write8_cycle : (write8 s a v).env.cycle = s.env.cycle := by rw [write8_env]
@[simp] theorem write8_ioReads : (write8 s a v).env.ioReads = s.env.ioReads := by rw [write8_env]
@[simp] theorem write8_bus : (write8 s a v).env.bus = s.env.bus := by rw [write8_env]

@[simp] theorem memWrite_regs : (memWrite s a v).regs = s.regs := write8_regs _ _ _
@[simp] theorem memWrite_eng : (memWrite s a v).eng = s.eng := write8_eng _ _ _
@[simp] theorem memWrite_params : (memWrite s a v).params = s.params := write8_params _ _ _
@[simp] theorem memWrite_inputs : (memWrite s a v).env.inputs = s.env.inputs := write8_inputs _ _ _
@[simp] theorem memWrite_keys : (memWrite s a v).env.keys = s.env.keys := write8_keys _ _ _
@[simp] theorem memWrite_extIrq : (memWrite s a v).env.extIrq = s.env.extIrq := write8_extIrq _ _ _
@[simp] theorem memWrite_now : (memWrite s a v).env.now = s.env.now := write8_now _ _ _
@[simp] theorem memWrite_cycle : (memWrite s a v).env.cycle = s.env.cycle := write8_cycle _ _ _
@[simp] theorem memWrite_ioReads : (memWrite s a v).env.ioReads = s.env.ioReads := write8_ioReads _ _ _

/-- A write refuses the run exactly where it selects VRAM bank 1 (R131). -/
theorem write8_vbkRefused : (write8 s a v).vbkRefused = (s.vbkRefused || selectsVramBank1 s.params.cgb a v) := by
  unfold write8 selectsVramBank1 writeWram writeIo
  split <;> rename_i h <;> simp only [h, beq_self_eq_true, Bool.true_and, reduceCtorEq, beq_iff_eq, Bool.and_eq_true,
    Bool.or_false, Bool.false_and, BEq.rfl, Bool.false_eq, false_and]
  case h_8 =>
    split <;> rename_i h' <;> simp [h']
    by_cases hv : v[0] = true <;> simp [hv]
  all_goals simp

theorem memWrite_vbkRefused : (memWrite s a v).vbkRefused = (s.vbkRefused || selectsVramBank1 s.params.cgb a v) :=
  write8_vbkRefused _ _ _

/-- No write changes the ROM array or what loading fixed (R68, R127, R203). -/
theorem Cart.writeRam_config (c : Cart) (now o : Nat) :
    (c.writeRam now o v).rom = c.rom ∧ (c.writeRam now o v).romBankCount = c.romBankCount ∧
      (c.writeRam now o v).ramSize = c.ramSize ∧ (c.writeRam now o v).hasBattery = c.hasBattery := by
  unfold Cart.writeRam; split <;> simp

theorem Cart.intercept_config (c : Cart) (now : Nat) :
    (c.intercept now a v).rom = c.rom ∧ (c.intercept now a v).ram = c.ram ∧
      (c.intercept now a v).romBankCount = c.romBankCount ∧
      (c.intercept now a v).ramSize = c.ramSize ∧ (c.intercept now a v).hasBattery = c.hasBattery := by
  unfold Cart.intercept
  split
  · split <;> simp
  · simp

theorem write8_cart_config : (write8 s a v).cart.rom = s.cart.rom ∧ (write8 s a v).cart.romBankCount = s.cart.romBankCount ∧
    (write8 s a v).cart.ramSize = s.cart.ramSize ∧ (write8 s a v).cart.hasBattery = s.cart.hasBattery := by
  unfold write8 writeWram
  split
  · have h := Cart.intercept_config a v s.cart s.env.now
    exact ⟨h.1, h.2.2⟩
  · simp
  · exact Cart.writeRam_config v s.cart s.env.now _
  · simp
  · simp
  · simp
  · simp
  · exact writeIo_cases s a v (fun t => t.cart.rom = s.cart.rom ∧ t.cart.romBankCount = s.cart.romBankCount ∧
      t.cart.ramSize = s.cart.ramSize ∧ t.cart.hasBattery = s.cart.hasBattery) (by intros; simp)
  · simp
  · simp

end Write8

end Sys2Proof.Machine
end

