-- ==== Sys2Proof/Laws/Frame.lean ====
section
/-! SUPPORT. What an address reads after something has happened: time alone and reads leave every steady address alone, and a write
leaves alone every steady address it does not reach. -/

namespace Sys2Proof.Machine

/-- `t` holds the same storage, bank selection and steady I/O registers as `s`, OAM apart. -/
structure SameBacking (s t : State) : Prop where
  params : t.params = s.params
  rom : t.cart.rom = s.cart.rom
  ram : t.cart.ram = s.cart.ram
  cells : t.cart.mbc.cells = s.cart.mbc.cells
  romOffset : ∀ a, t.cart.romOffset a = s.cart.romOffset a
  ramTarget : ∀ o, t.cart.ramTarget o = s.cart.ramTarget o
  wram : t.mem.wram = s.mem.wram
  vram : t.mem.vram = s.mem.vram
  hram : t.mem.hram = s.mem.hram
  svbk : t.mem.svbk = s.mem.svbk
  ie : t.intr.ie = s.intr.ie
  tma : t.timer.tma = s.timer.tma
  tac : t.timer.tac = s.timer.tac
  dmaReg : t.dma.reg = s.dma.reg

theorem SameBacking.wramOffset {s t : State} (h : SameBacking s t) (a : Word) : wramOffset t a = wramOffset s a := by
  simp only [Sys2Proof.Machine.wramOffset, h.params, h.svbk]

theorem SameBacking.clockAt {s t : State} (h : SameBacking s t) (a : Word) : clockAt t a = clockAt s a := by
  simp only [Sys2Proof.Machine.clockAt, h.ramTarget]

theorem SameBacking.cellAt {s t : State} (h : SameBacking s t) (a : Word) : cellAt t a = cellAt s a := by
  simp only [Sys2Proof.Machine.cellAt, h.ramTarget, h.wramOffset]

theorem SameBacking.reaches {s t : State} (h : SameBacking s t) (a b : Word) : reaches t a b = reaches s a b := by
  simp only [Sys2Proof.Machine.reaches, h.clockAt, h.cellAt, h.params]

/-- The RAM window reads the same but where an RTC register is selected. -/
theorem SameBacking.readRam {s t : State} (h : SameBacking s t) (o : Nat) (hc : ∀ sel, s.cart.ramTarget o ≠ .clock sel) :
    t.cart.readRam t.env.now o = s.cart.readRam s.env.now o := by
  unfold Cart.readRam
  rw [h.ramTarget]
  split
  · rfl
  · rw [h.ram]
  · rw [h.cells]
  · next sel he => exact absurd he (hc sel)

theorem not_clockAt_iff {s : State} {a : Word} :
    (!clockAt s a) = true ↔ ∀ sel, s.cart.ramTarget (ramIndex a) ≠ .clock sel := by
  unfold Sys2Proof.Machine.clockAt
  split <;> simp_all

theorem readIo_steady {s t : State} (h : SameBacking s t) (a : Word) (hs : (ioReg s.params.cgb a).isSteady = true) :
    readIo t a = readIo s a := by
  unfold readIo
  rw [h.params]
  split <;> simp_all [IoReg.isSteady, h.tma, h.tac, h.dmaReg, h.svbk]

/-- A steady address reads the same in a state with the same backing, if its OAM is the same where the address lies in OAM. -/
theorem SameBacking.read8 {s t : State} (h : SameBacking s t) {a : Word} (hs : steady s a = true)
    (ho : region a = .oam → t.mem.oam = s.mem.oam) : read8 t a = read8 s a := by
  unfold Sys2Proof.Machine.read8
  unfold steady at hs
  split <;> rename_i hr <;> simp only [hr] at hs
  · simp only [Cart.readRom, h.rom, h.romOffset]
  · rw [h.vram]
  · exact h.readRam _ (not_clockAt_iff.mp hs)
  · rw [h.wram, h.wramOffset]
  · rw [h.wram, h.wramOffset]
  · rw [ho hr]
  · rfl
  · exact readIo_steady h a hs
  · rw [h.hram]
  · exact h.ie

theorem SameBacking.steady {s t : State} (h : SameBacking s t) {a : Word} (hs : steady s a = true)
    (hd : region a = .oam → s.dma.active = false → t.dma.active = false) : steady t a = true := by
  unfold Sys2Proof.Machine.steady at hs ⊢
  split <;> rename_i hr <;> simp only [hr] at hs
  case h_8 => simp_all
  case h_9 => rw [h.clockAt]; exact hs
  case h_10 => rw [h.params]; exact hs
  all_goals rfl

/-! ## Time -/

theorem tick_sameBacking (s : State) : SameBacking s (tick s) := by
  constructor <;> try rfl
  · simp only [tick_cart]; split <;> simp
  · simp only [tick_cart]; split <;> simp
  · simp only [tick_cart]; split <;> simp
  · intro a; simp only [tick_cart]; split <;> simp
  · intro o; simp only [tick_cart]; split <;> simp

/-- One bus cycle leaves every steady address alone. -/
theorem read8_tick {s : State} {a : Word} (h : steady s a = true) : read8 (tick s) a = read8 s a := by
  refine (tick_sameBacking s).read8 h fun hr => ?_
  have : s.dma.active = false := by simpa [steady, hr] using h
  simp [Dma.copies, this]

theorem steady_tick {s : State} {a : Word} (h : steady s a = true) : steady (tick s) a = true :=
  (tick_sameBacking s).steady h fun _ hd => by simp [hd]

@[simp] theorem reaches_tick (s : State) (a b : Word) : reaches (tick s) a b = reaches s a b :=
  (tick_sameBacking s).reaches a b

@[simp] theorem cellAt_tick (s : State) (a : Word) : cellAt (tick s) a = cellAt s a := (tick_sameBacking s).cellAt a

theorem steady_elapse {s : State} {a : Word} (n : Nat) (h : steady s a = true) : steady (elapse n s) a = true := by
  induction n generalizing s with
  | zero => exact h
  | succ n ih => exact ih (steady_tick h)

/-- Bus cycles in which the CPU does nothing leave every steady address alone. -/
theorem read8_elapse {s : State} {a : Word} (n : Nat) (h : steady s a = true) : read8 (elapse n s) a = read8 s a := by
  induction n generalizing s with
  | zero => rfl
  | succ n ih => exact (ih (steady_tick h)).trans (read8_tick h)

/-! ## Reads -/

theorem memRead_sameBacking (s : State) (b : Word) : SameBacking s (memRead s b) := by
  constructor <;> try rfl
  all_goals simp

/-- A read leaves every steady address alone. -/
theorem read8_memRead {s : State} {a : Word} (b : Word) (h : steady s a = true) : read8 (memRead s b) a = read8 s a :=
  (memRead_sameBacking s b).read8 h fun _ => rfl

theorem steady_memRead {s : State} {a : Word} (b : Word) (h : steady s a = true) : steady (memRead s b) a = true :=
  (memRead_sameBacking s b).steady h fun _ hd => hd

@[simp] theorem reaches_memRead (s : State) (c a b : Word) : reaches (memRead s c) a b = reaches s a b :=
  (memRead_sameBacking s c).reaches a b

/-! ## Register updates -/

theorem setRegs_sameBacking (s : State) (f : Regs → Regs) : SameBacking s (setRegs s f) := by
  constructor <;> first | rfl | (intro; rfl)

@[simp] theorem read8_setRegs (s : State) (f : Regs → Regs) (a : Word) : read8 (setRegs s f) a = read8 s a := rfl
@[simp] theorem read8_setCtx (s : State) (f : Ctx → Ctx) (a : Word) : read8 (setCtx s f) a = read8 s a := rfl
@[simp] theorem read8_setPc (s : State) (v : Word) (a : Word) : read8 (setPc s v) a = read8 s a := rfl
@[simp] theorem read8_setSp (s : State) (v : Word) (a : Word) : read8 (setSp s v) a = read8 s a := rfl
@[simp] theorem read8_setIme (s : State) (v : Ime) (a : Word) : read8 (setIme s v) a = read8 s a := rfl
@[simp] theorem read8_withQueue (s : State) (o : List Micro) (k : Nat) (a : Word) :
    read8 (withQueue s o k) a = read8 s a := rfl

/-! ## Writes -/

theorem logAccess_sameBacking (s : State) (w : Bool) (a : Word) (v : Byte) : SameBacking s (logAccess s w a v) := by
  constructor <;> first | rfl | (intro; rfl)

@[simp] theorem reaches_logAccess (s : State) (w : Bool) (a : Word) (v : Byte) (b c : Word) :
    reaches (logAccess s w a v) b c = reaches s b c := (logAccess_sameBacking s w a v).reaches b c

@[simp] theorem read8_logAccess (s : State) (w : Bool) (a : Word) (v : Byte) (b : Word) :
    read8 (logAccess s w a v) b = read8 s b := rfl

/-- The address of an I/O register; a collaborator's registers have no address of their own here. -/
def ioAddress : IoReg → Option Word
  | .p1 => some 0xFF00
  | .div => some 0xFF04
  | .tima => some 0xFF05
  | .tma => some 0xFF06
  | .tac => some 0xFF07
  | .intFlags => some 0xFF0F
  | .dma => some 0xFF46
  | .svbk => some 0xFF70
  | .vbk => some 0xFF4F
  | .collaborator => none

theorem ioReg_address (cgb : Bool) (a : Word) : ioReg cgb a = .collaborator ∨ ioAddress (ioReg cgb a) = some a := by
  unfold ioReg
  split_ifs <;> simp_all [ioAddress]

/-- An I/O register other than a collaborator's has one address. -/
theorem ioReg_inj {cgb : Bool} {a b : Word} (h : ioReg cgb a = ioReg cgb b) (hc : ioReg cgb a ≠ .collaborator) : a = b := by
  have ha := (ioReg_address cgb a).resolve_left hc
  have hb := (ioReg_address cgb b).resolve_left (h ▸ hc)
  rw [h, hb] at ha
  exact (Option.some.inj ha).symm

section WriteIo
variable (s : State) (a : Word) (v : Byte)

@[simp] theorem writeIo_cart : (writeIo s a v).cart = s.cart :=
  writeIo_cases s a v (fun t => t.cart = s.cart) (by intros; rfl)
@[simp] theorem writeIo_params : (writeIo s a v).params = s.params :=
  writeIo_cases s a v (fun t => t.params = s.params) (by intros; rfl)
@[simp] theorem writeIo_wram : (writeIo s a v).mem.wram = s.mem.wram :=
  writeIo_cases s a v (fun t => t.mem.wram = s.mem.wram) (by intros; assumption)
@[simp] theorem writeIo_vram : (writeIo s a v).mem.vram = s.mem.vram :=
  writeIo_cases s a v (fun t => t.mem.vram = s.mem.vram) (by intros; assumption)
@[simp] theorem writeIo_oam : (writeIo s a v).mem.oam = s.mem.oam :=
  writeIo_cases s a v (fun t => t.mem.oam = s.mem.oam) (by intros; assumption)
@[simp] theorem writeIo_hram : (writeIo s a v).mem.hram = s.mem.hram :=
  writeIo_cases s a v (fun t => t.mem.hram = s.mem.hram) (by intros; assumption)
@[simp] theorem writeIo_now : (writeIo s a v).env.now = s.env.now :=
  writeIo_cases s a v (fun t => t.env.now = s.env.now)
    (by intro _ _ _ _ _ _ _ _ _ _ _ he; exact (congrArg Env.now he).trans rfl)
@[simp] theorem writeIo_ie : (writeIo s a v).intr.ie = s.intr.ie := by
  unfold writeIo; split <;> first | rfl | (split <;> rfl)

theorem writeIo_svbk (h : ioReg s.params.cgb a ≠ .svbk) : (writeIo s a v).mem.svbk = s.mem.svbk := by
  unfold writeIo; split <;> first | rfl | (split <;> rfl) | exact absurd ‹_› h

theorem writeIo_dma (h : ioReg s.params.cgb a ≠ .dma) : (writeIo s a v).dma = s.dma := by
  unfold writeIo; split <;> first | rfl | (split <;> rfl) | exact absurd ‹_› h

theorem writeIo_tma (h : ioReg s.params.cgb a ≠ .tma) : (writeIo s a v).timer.tma = s.timer.tma := by
  unfold writeIo; split <;> first | rfl | (split <;> rfl) | exact absurd ‹_› h

theorem writeIo_tac (h : ioReg s.params.cgb a ≠ .tac) : (writeIo s a v).timer.tac = s.timer.tac := by
  unfold writeIo; split <;> first | rfl | (split <;> rfl) | exact absurd ‹_› h

end WriteIo

/-- A write of an I/O register leaves the steady I/O registers at other addresses alone. -/
theorem readIo_writeIo_other {s : State} {a b : Word} (v : Byte) (hb : (ioReg s.params.cgb b).isSteady = true)
    (hk : ioReg s.params.cgb a ≠ ioReg s.params.cgb b) : readIo (writeIo s a v) b = readIo s b := by
  unfold readIo
  simp only [writeIo_params]
  cases hr : ioReg s.params.cgb b <;> simp only [hr] at hb hk ⊢ <;> try exact absurd hb (by decide)
  · rw [writeIo_tma s a v hk]
  · rw [writeIo_tac s a v hk]
  · rw [writeIo_dma s a v hk]
  · rw [writeIo_svbk s a v hk]

theorem ioReg_ne_of_steady {cgb : Bool} {a b : Word} (hb : (ioReg cgb b).isSteady = true) (hne : b ≠ a) :
    ioReg cgb a ≠ ioReg cgb b := fun e =>
  hne (ioReg_inj e (by intro hc; rw [← e, hc] at hb; exact absurd hb (by decide))).symm

/-- What an I/O write does not reach, by the register it writes. -/
theorem not_reaches_io {s : State} {a b : Word} (ha : region a = .io) (hb : steady s b = true) (hr : reaches s a b = false) :
    (region b = .io → ioReg s.params.cgb a ≠ ioReg s.params.cgb b) ∧
    (ioReg s.params.cgb a = .svbk → inSwitchableWram b = false) ∧
    (ioReg s.params.cgb a = .dma → region b ≠ .oam) := by
  refine ⟨fun hio => ?_, fun h => ?_, fun h => ?_⟩
  · have hs : (ioReg s.params.cgb b).isSteady = true := by simpa [steady, hio] using hb
    by_cases hne : b = a
    · intro e
      unfold reaches at hr
      simp only [ha] at hr
      rw [← e] at hs
      cases hk : ioReg s.params.cgb a <;> simp_all [IoReg.isSteady]
    · exact ioReg_ne_of_steady hs hne
  · unfold reaches at hr; simp only [ha, h, Bool.or_eq_false_iff] at hr; exact hr.2
  · unfold reaches at hr; simp only [ha, h, Bool.or_eq_false_iff] at hr; simpa using hr.2

theorem region_wram_range {a : Word} (h : region a = .wram) : 0xC000 ≤ a.toNat ∧ a.toNat < 0xE000 := by
  unfold region at h
  repeat' split at h
  all_goals first | exact absurd h (by decide) | omega

theorem region_echo_range {a : Word} (h : region a = .echo) : 0xE000 ≤ a.toNat ∧ a.toNat < 0xFE00 := by
  unfold region at h
  repeat' split at h
  all_goals first | exact absurd h (by decide) | omega

theorem offset_of_le {a base : Word} (h : base.toNat ≤ a.toNat) : offset a base = a.toNat - base.toNat := by
  have ha := a.isLt
  have hb := base.isLt
  simp only [offset, BitVec.toNat_sub]
  omega

theorem echoBase_toNat {a : Word} (h : region a = .echo) : (echoBase a).toNat = a.toNat - 0x2000 := by
  have := region_echo_range h
  have hlt := a.isLt
  simp [echoBase, BitVec.toNat_sub]
  omega

/-- The fixed half of work RAM does not depend on SVBK (R130). -/
theorem wramOffset_fixed {s t : State} {a : Word} (h : a.toNat < 0xD000) : wramOffset t a = wramOffset s a := by
  unfold wramOffset
  have : ¬ (0xD000 ≤ a.toNat) := by omega
  simp [this]

/-- A write of an I/O register leaves alone every steady address it does not reach. -/
theorem read8_writeIo_other {s : State} {a b : Word} (v : Byte) (ha : region a = .io) (hb : steady s b = true)
    (hr : reaches s a b = false) : read8 (writeIo s a v) b = read8 s b := by
  obtain ⟨h1, h2, h3⟩ := not_reaches_io ha hb hr
  have hoff : ∀ c : Word, (inSwitchableWram b = false → c.toNat < 0xD000) → wramOffset (writeIo s a v) c = wramOffset s c := by
    intro c hc
    by_cases hk : ioReg s.params.cgb a = .svbk
    · exact wramOffset_fixed (hc (h2 hk))
    · simp only [wramOffset, writeIo_params, writeIo_svbk s a v hk]
  unfold read8
  cases hreg : region b <;> simp only [writeIo_cart, writeIo_vram, writeIo_wram, writeIo_oam, writeIo_hram, writeIo_now, writeIo_ie]
  · rw [hoff b]
    intro hs
    have := region_wram_range hreg
    simp only [inSwitchableWram, Bool.or_eq_false_iff, Bool.and_eq_false_iff, decide_eq_false_iff_not] at hs
    omega
  · rw [hoff (echoBase b)]
    intro hs
    have := region_echo_range hreg
    rw [echoBase_toNat hreg]
    simp only [inSwitchableWram, Bool.or_eq_false_iff, Bool.and_eq_false_iff, decide_eq_false_iff_not] at hs
    omega
  · exact readIo_writeIo_other v (by simpa [steady, hreg] using hb) (h1 hreg)

/-- Other MBC2 cells move no bank. -/
theorem Cart.romOffset_setCells (c : Cart) (m : Memory) (a : Word) :
    ({ c with mbc := c.mbc.setCells m } : Cart).romOffset a = c.romOffset a := by
  obtain ⟨rom, ram, banks, size, bat, mbc⟩ := c
  cases mbc <;> rfl

/-- Other MBC2 cells move no RAM target. -/
theorem Cart.ramTarget_setCells (c : Cart) (m : Memory) (o : Nat) :
    ({ c with mbc := c.mbc.setCells m } : Cart).ramTarget o = c.ramTarget o := by
  obtain ⟨rom, ram, banks, size, bat, mbc⟩ := c
  cases mbc <;> rfl

/-- Only MBC2 has cells, so a cell target means the cells are there. -/
theorem Cart.cells_setCells_of_target {c : Cart} {o i : Nat} (h : c.ramTarget o = .cell i) (m : Memory) :
    (c.mbc.setCells m).cells = m := by
  obtain ⟨rom, ram, banks, size, bat, mbc⟩ := c
  cases mbc with
  | mbc2 _ => rfl
  | none => simp [Cart.ramTarget, Cart.extTarget] at h; split at h <;> simp at h
  | mbc1 m1 =>
    simp only [Cart.ramTarget, Cart.extTarget] at h
    repeat' split at h
    all_goals simp at h
  | mbc3 m1 =>
    simp only [Cart.ramTarget, Cart.extTarget] at h
    repeat' split at h
    all_goals simp at h
  | mbc5 m1 =>
    simp only [Cart.ramTarget, Cart.extTarget] at h
    repeat' split at h
    all_goals simp at h

/-- The ROM window reads the same in a cartridge with the same ROM array and the same banks. -/
theorem Cart.readRom_congr {c d : Cart} {a : Word} (hr : d.rom = c.rom) (ho : d.romOffset a = c.romOffset a) :
    d.readRom a = c.readRom a := by
  simp only [Cart.readRom, hr, ho]

/-- A write to the RAM window leaves alone the rest of the map, and in the window what it does not reach. -/
theorem read8_writeRam_other {s : State} {a b : Word} (v : Byte) (ha : region a = .cartRam) (hb : steady s b = true)
    (hr : reaches s a b = false) :
    read8 { s with cart := s.cart.writeRam s.env.now (ramIndex a) v } b = read8 s b := by
  unfold reaches at hr
  simp only [ha] at hr
  unfold read8 Cart.writeRam
  cases ht : s.cart.ramTarget (ramIndex a) with
  | closed => rfl
  | ext i =>
    have hc : clockAt s a = false := by simp [clockAt, ht]
    have hx : cellAt s a = some (.ext i) := by simp [cellAt, ha, ht]
    simp only [hc, hx] at hr
    cases hb' : region b <;> try rfl
    simp only [Cart.readRam]
    have hsame : ∀ o, ({ s.cart with ram := s.cart.ram.write i v } : Cart).ramTarget o = s.cart.ramTarget o := fun _ => rfl
    rw [hsame]
    cases hbt : s.cart.ramTarget (ramIndex b) with
    | closed => rfl
    | cell j => rfl
    | clock sel => rfl
    | ext j =>
      have : cellAt s b = some (.ext j) := by simp [cellAt, hb', hbt]
      exact Memory.read_write_other _ _ (by simpa [this] using hr)
  | cell i =>
    have hc : clockAt s a = false := by simp [clockAt, ht]
    have hx : cellAt s a = some (.mbc2 i) := by simp [cellAt, ha, ht]
    simp only [hc, hx] at hr
    cases hb' : region b
    case rom => exact Cart.readRom_congr rfl (Cart.romOffset_setCells _ _ _)
    case cartRam =>
      simp only [Cart.readRam, Cart.ramTarget_setCells]
      cases hbt : s.cart.ramTarget (ramIndex b) with
      | closed => rfl
      | ext j => rfl
      | clock sel => exact absurd hbt (not_clockAt_iff.mp (by simpa [steady, hb'] using hb) sel)
      | cell j =>
        have : cellAt s b = some (.mbc2 j) := by simp [cellAt, hb', hbt]
        simp only [Cart.cells_setCells_of_target ht]
        rw [Memory.read_write_other _ _ (by simpa [this] using hr)]
    all_goals rfl
  | clock sel =>
    have hc : clockAt s a = true := by simp [clockAt, ht]
    simp only [hc] at hr
    cases hb' : region b
    case rom => exact Cart.readRom_congr rfl (Cart.romOffset_mapClock _ _ _)
    case cartRam => simp [hb'] at hr
    all_goals rfl

/-- A write to plain storage leaves alone every other cell (R126). -/
theorem read8_of_mem_change {s : State} {m : Storage} {b : Word} (hs : m.svbk = s.mem.svbk)
    (hv : region b = .vram → m.vram.read (vramIndex b) = s.mem.vram.read (vramIndex b))
    (hw : region b = .wram → m.wram.read (wramOffset s b) = s.mem.wram.read (wramOffset s b))
    (he : region b = .echo → m.wram.read (wramOffset s (echoBase b)) = s.mem.wram.read (wramOffset s (echoBase b)))
    (ho : region b = .oam → m.oam.read (oamIndex b) = s.mem.oam.read (oamIndex b))
    (hh : region b = .hram → m.hram.read (hramIndex b) = s.mem.hram.read (hramIndex b)) :
    read8 { s with mem := m } b = read8 s b := by
  have hoff : ∀ c, wramOffset { s with mem := m } c = wramOffset s c := fun c => by simp only [wramOffset, hs]
  unfold read8
  cases hb : region b
  case vram => exact hv hb
  case wram => simp only [hoff]; exact hw hb
  case echo => simp only [hoff]; exact he hb
  case oam => exact ho hb
  case hram => exact hh hb
  case io => simp only [readIo, hs]
  all_goals rfl

/-- Everything a write leaves alone: a steady address that it does not reach reads the same (R126, R139). -/
theorem read8_write8_other {s : State} {a b : Word} (v : Byte) (hb : steady s b = true) (hr : reaches s a b = false) :
    read8 (write8 s a v) b = read8 s b := by
  by_cases hio : region a = .io
  · have hw : write8 s a v = writeIo s a v := by unfold write8; rw [hio]
    rw [hw]
    exact read8_writeIo_other v hio hb hr
  by_cases hcr : region a = .cartRam
  · have hw : write8 s a v = { s with cart := s.cart.writeRam s.env.now (ramIndex a) v } := by unfold write8; rw [hcr]
    rw [hw]
    exact read8_writeRam_other v hcr hb hr
  unfold write8
  unfold reaches at hr
  cases ha : region a <;> simp only [ha] at hr hio hcr ⊢
  case rom =>
    unfold read8
    cases hb' : region b
    case rom => simp [hb'] at hr
    case cartRam => simp [hb'] at hr
    all_goals rfl
  case vram =>
    refine read8_of_mem_change rfl (fun hb' => ?_) (fun _ => rfl) (fun _ => rfl) (fun _ => rfl) (fun _ => rfl)
    exact Memory.read_write_other _ _ (by simpa [cellAt, ha, hb'] using hr)
  case wram =>
    refine read8_of_mem_change rfl (fun _ => rfl) (fun hb' => ?_) (fun hb' => ?_) (fun _ => rfl) (fun _ => rfl)
    · exact Memory.read_write_other _ _ (by simpa [cellAt, ha, hb'] using hr)
    · exact Memory.read_write_other _ _ (by simpa [cellAt, ha, hb'] using hr)
  case echo =>
    refine read8_of_mem_change rfl (fun _ => rfl) (fun hb' => ?_) (fun hb' => ?_) (fun _ => rfl) (fun _ => rfl)
    · exact Memory.read_write_other _ _ (by simpa [cellAt, ha, hb'] using hr)
    · exact Memory.read_write_other _ _ (by simpa [cellAt, ha, hb'] using hr)
  case oam =>
    refine read8_of_mem_change rfl (fun _ => rfl) (fun _ => rfl) (fun _ => rfl) (fun hb' => ?_) (fun _ => rfl)
    exact Memory.read_write_other _ _ (by simpa [cellAt, ha, hb'] using hr)
  case hram =>
    refine read8_of_mem_change rfl (fun _ => rfl) (fun _ => rfl) (fun _ => rfl) (fun _ => rfl) (fun hb' => ?_)
    exact Memory.read_write_other _ _ (by simpa [cellAt, ha, hb'] using hr)
  case ie =>
    unfold read8
    cases hb' : region b
    case ie => simp [cellAt, ha, hb'] at hr
    all_goals rfl
  case io => exact absurd trivial hio
  case cartRam => exact absurd trivial hcr

theorem read8_memWrite_other {s : State} {a b : Word} (v : Byte) (hb : steady s b = true) (hr : reaches s a b = false) :
    read8 (memWrite s a v) b = read8 s b := by
  have hb' : steady (logAccess s true a v) b = true := (logAccess_sameBacking s true a v).steady hb fun _ h => h
  exact (read8_write8_other v hb' (by simpa using hr)).trans rfl

/-- A write outside the RAM window and the ROM window moves no RAM target. -/
theorem ramTarget_write8 {s : State} {a : Word} (v : Byte) (h : region a ≠ .rom) (hc : region a = .cartRam → clockAt s a = false)
    (o : Nat) : (write8 s a v).cart.ramTarget o = s.cart.ramTarget o := by
  unfold write8
  split
  · exact absurd ‹_› h
  · rfl
  · have := hc ‹_›
    simp only [Cart.writeRam]
    split
    · rfl
    · rfl
    · exact Cart.ramTarget_setCells _ _ _
    · rename_i ht; simp [clockAt, ht] at this
  · rfl
  · rfl
  · rfl
  · rfl
  · rw [writeIo_cart]
  · rfl
  · rfl

/-- A steady address that a write does not reach stays steady. -/
theorem steady_write8_other {s : State} {a b : Word} (v : Byte) (hb : steady s b = true) (hr : reaches s a b = false) :
    steady (write8 s a v) b = true := by
  unfold steady at hb ⊢
  cases hreg : region b <;> simp only [hreg] at hb ⊢
  case io => simpa using hb
  case cartRam =>
    have hrom : region a ≠ .rom := by
      intro h; unfold reaches at hr; simp [h, hreg] at hr
    have hcl : region a = .cartRam → clockAt s a = false := by
      intro h
      by_contra hne
      unfold reaches at hr
      simp [h, hreg, hne] at hr
    simp only [clockAt, ramTarget_write8 v hrom hcl] at hb ⊢
    exact hb
  case oam =>
    unfold write8 writeWram
    split <;> try exact hb
    rename_i hio
    have hd : ioReg s.params.cgb a ≠ .dma := by
      intro h
      unfold reaches at hr
      simp [hio, h, hreg] at hr
    rw [writeIo_dma s a v hd]
    exact hb

theorem steady_memWrite_other {s : State} {a b : Word} (v : Byte) (hb : steady s b = true) (hr : reaches s a b = false) :
    steady (memWrite s a v) b = true := by
  have hb' : steady (logAccess s true a v) b = true := (logAccess_sameBacking s true a v).steady hb fun _ h => h
  exact steady_write8_other v hb' (by simpa using hr)

end Sys2Proof.Machine
end

