-- ==== Sys2Proof/Laws/Engine.lean ====
section
/-! SUPPORT. What running an instruction's micro-ops comes to: one lemma per kind of micro-op entry, the outcome of the end of an
instruction, and which run each family of instructions is. -/

namespace Sys2Proof.Machine

/-! ## Micro-ops -/

@[simp] theorem runRest_nil (s : State) : runRest [] s = s := rfl

/-- A plain micro-op runs in the next bus cycle, and the rest follow. -/
@[simp] theorem runRest_does (op : MicroOp) (rest : List Micro) (s : State) :
    runRest (does op :: rest) s = runRest rest (runMicro (does op) (tick s)) := rfl

/-- A conditional micro-op whose condition holds runs like a plain one (R364). -/
theorem runRest_onlyIf_true {cc : Cond} {s : State} (h : condHolds cc s.regs.f = true) (op : MicroOp) (rest : List Micro) :
    runRest (onlyIf cc op :: rest) s = runRest rest (runMicro (does op) (tick s)) := by
  have ht : ({ guard := some cc, op := op } : Micro).holds (tick s) = true := h
  simp only [runRest, runMicro, ht, if_true]
  rfl

/-- A conditional micro-op whose condition fails ends the instruction and does nothing else (R364). -/
theorem runRest_onlyIf_false {cc : Cond} {s : State} (h : condHolds cc s.regs.f = false) (op : MicroOp) (rest : List Micro) :
    runRest (onlyIf cc op :: rest) s = { tick s with eng := { (tick s).eng with qi := (tick s).eng.queue.length } } := by
  have ht : ({ guard := some cc, op := op } : Micro).holds (tick s) = false := h
  simp only [runRest, runMicro, ht, if_false, Bool.false_eq_true]

/-- A plain micro-op does its work and advances the queue (R365). -/
@[simp] theorem runMicro_does (op : MicroOp) (s : State) :
    runMicro (does op) s = { micro op s with eng := { (micro op s).eng with qi := (micro op s).eng.qi + 1 } } := rfl

/-- The end of an instruction that has not refused. -/
theorem finish_next {s : State} (h : s.vbkRefused = false) : finish s = .next s := by simp [finish, h]

/-- The end of an instruction is a next state only where it has not refused, and then it is that state. -/
theorem finish_eq_next {s t : State} (h : finish s = .next t) : t = s ∧ s.vbkRefused = false := by
  cases hv : s.vbkRefused with
  | true => simp [finish, hv] at h
  | false => exact ⟨by simpa [finish, hv, eq_comm] using h, rfl⟩

/-! ## Which run an instruction is -/

theorem exec_ldReg (d r : Reg8) (s : State) :
    exec (Instr.ldReg d r) s = runFrom 0 (Microcode.ldReg d r) s := by cases d <;> cases r <;> rfl

theorem exec_ldImm (r : Reg8) (n : Byte) (s : State) :
    exec (Instr.ldImm r n) s = runFrom 1 (Microcode.ldImm r) (withTmp n s) := by cases r <;> rfl

theorem exec_ldFromHl (r : Reg8) (s : State) :
    exec (Instr.ldFromHl r) s = runFrom 0 (Microcode.ldFromHl r) s := by cases r <;> rfl

theorem exec_ldToHl (r : Reg8) (s : State) :
    exec (Instr.ldToHl r) s = runFrom 0 (Microcode.ldToHl r) s := by cases r <;> rfl

theorem exec_aluReg (op : AluOp) (r : Reg8) (s : State) :
    exec (Instr.aluReg op r) s = runFrom 0 (Microcode.aluReg op r) s := by cases op <;> cases r <;> rfl

theorem exec_aluHl (op : AluOp) (s : State) :
    exec (Instr.aluHl op) s = runFrom 0 (Microcode.aluHl op) s := by cases op <;> rfl

theorem exec_aluImm (op : AluOp) (n : Byte) (s : State) :
    exec (Instr.aluImm op n) s = runFrom 1 (Microcode.aluImm op) (withTmp n s) := by cases op <;> rfl

theorem exec_incReg (r : Reg8) (s : State) :
    exec (Instr.incReg r) s = runFrom 0 (Microcode.incReg r) s := by cases r <;> rfl

theorem exec_decReg (r : Reg8) (s : State) :
    exec (Instr.decReg r) s = runFrom 0 (Microcode.decReg r) s := by cases r <;> rfl

theorem exec_ldPair (dd : Pair) (nn : Word) (s : State) :
    exec (Instr.ldPair dd nn) s = runFrom 2 (Microcode.ldPair dd) (withNn nn s) := by cases dd <;> rfl

theorem exec_addHl (dd : Pair) (s : State) :
    exec (Instr.addHl dd) s = runFrom 0 (Microcode.addHl dd) s := by cases dd <;> rfl

theorem exec_incPair (dd : Pair) (s : State) :
    exec (Instr.incPair dd) s = runFrom 0 (Microcode.incPair dd) s := by cases dd <;> rfl

theorem exec_decPair (dd : Pair) (s : State) :
    exec (Instr.decPair dd) s = runFrom 0 (Microcode.decPair dd) s := by cases dd <;> rfl

theorem exec_push (qq : QPair) (s : State) :
    exec (Instr.push qq) s = runFrom 0 (Microcode.push qq) s := by cases qq <;> rfl

theorem exec_pop (qq : QPair) (s : State) :
    exec (Instr.pop qq) s = runFrom 0 (Microcode.pop qq) s := by cases qq <;> rfl

theorem exec_jpCond (cc : Cond) (nn : Word) (s : State) :
    exec (Instr.jpCond cc nn) s = runFrom 2 (Microcode.jpCond cc) (withNn nn s) := by cases cc <;> rfl

theorem exec_jrCond (cc : Cond) (e : Byte) (s : State) :
    exec (Instr.jrCond cc e) s = runFrom 1 (Microcode.jrCond cc) (withE e s) := by cases cc <;> rfl

theorem exec_callCond (cc : Cond) (nn : Word) (s : State) :
    exec (Instr.callCond cc nn) s = runFrom 2 (Microcode.callCond cc) (withNn nn s) := by cases cc <;> rfl

theorem exec_retCond (cc : Cond) (s : State) :
    exec (Instr.retCond cc) s = runFrom 0 (Microcode.retCond cc) s := by cases cc <;> rfl

theorem exec_rst (t : Fin 8) (s : State) :
    exec (Instr.rst t) s = runFrom 0 (Microcode.rst t) s := by fin_cases t <;> rfl

theorem exec_rotReg (op : RotOp) (r : Reg8) (s : State) :
    exec (Instr.rotReg op r) s = runFrom 1 (Microcode.rotReg op r) s := by cases op <;> cases r <;> rfl

theorem exec_rotHl (op : RotOp) (s : State) :
    exec (Instr.rotHl op) s = runFrom 1 (Microcode.rotHl op) s := by cases op <;> rfl

theorem exec_bitReg (b : Fin 8) (r : Reg8) (s : State) :
    exec (Instr.bitReg b r) s = runFrom 1 (Microcode.bitReg b r) s := by fin_cases b <;> cases r <;> rfl

theorem exec_bitHl (b : Fin 8) (s : State) :
    exec (Instr.bitHl b) s = runFrom 1 (Microcode.bitHl b) s := by fin_cases b <;> rfl

theorem exec_resReg (b : Fin 8) (r : Reg8) (s : State) :
    exec (Instr.resReg b r) s = runFrom 1 (Microcode.resReg b r) s := by fin_cases b <;> cases r <;> rfl

theorem exec_resHl (b : Fin 8) (s : State) :
    exec (Instr.resHl b) s = runFrom 1 (Microcode.resHl b) s := by fin_cases b <;> rfl

theorem exec_setReg (b : Fin 8) (r : Reg8) (s : State) :
    exec (Instr.setReg b r) s = runFrom 1 (Microcode.setReg b r) s := by fin_cases b <;> cases r <;> rfl

theorem exec_setHl (b : Fin 8) (s : State) :
    exec (Instr.setHl b) s = runFrom 1 (Microcode.setHl b) s := by fin_cases b <;> rfl

theorem exec_NOP (s : State) : exec .NOP s = runFrom 0 Microcode.nop s := rfl
theorem exec_LD_mBC_A (s : State) : exec .LD_mBC_A s = runFrom 0 (Microcode.ldATo .bc) s := rfl
theorem exec_RLCA (s : State) : exec .RLCA s = runFrom 0 Microcode.rlca s := rfl
theorem exec_LD_mnn_SP (nn : Word) (s : State) : exec (.LD_mnn_SP nn) s = runFrom 2 Microcode.ldNnSp (withNn nn s) := rfl
theorem exec_LD_A_mBC (s : State) : exec .LD_A_mBC s = runFrom 0 (Microcode.ldAFrom .bc) s := rfl
theorem exec_RRCA (s : State) : exec .RRCA s = runFrom 0 Microcode.rrca s := rfl
theorem exec_STOP (s : State) : exec .STOP s = runFrom 0 Microcode.stop s := rfl
theorem exec_LD_mDE_A (s : State) : exec .LD_mDE_A s = runFrom 0 (Microcode.ldATo .de) s := rfl
theorem exec_RLA (s : State) : exec .RLA s = runFrom 0 Microcode.rla s := rfl
theorem exec_JR_e (e : Byte) (s : State) : exec (.JR_e e) s = runFrom 1 Microcode.jr (withE e s) := rfl
theorem exec_LD_A_mDE (s : State) : exec .LD_A_mDE s = runFrom 0 (Microcode.ldAFrom .de) s := rfl
theorem exec_RRA (s : State) : exec .RRA s = runFrom 0 Microcode.rra s := rfl
theorem exec_LD_mHLinc_A (s : State) : exec .LD_mHLinc_A s = runFrom 0 Microcode.ldHlIncA s := rfl
theorem exec_DAA (s : State) : exec .DAA s = runFrom 0 Microcode.daa s := rfl
theorem exec_LD_A_mHLinc (s : State) : exec .LD_A_mHLinc s = runFrom 0 Microcode.ldAHlInc s := rfl
theorem exec_CPL (s : State) : exec .CPL s = runFrom 0 Microcode.cpl s := rfl
theorem exec_LD_mHLdec_A (s : State) : exec .LD_mHLdec_A s = runFrom 0 Microcode.ldHlDecA s := rfl
theorem exec_INC_mHL (s : State) : exec .INC_mHL s = runFrom 0 Microcode.incHl s := rfl
theorem exec_DEC_mHL (s : State) : exec .DEC_mHL s = runFrom 0 Microcode.decHl s := rfl
theorem exec_LD_mHL_n (n : Byte) (s : State) : exec (.LD_mHL_n n) s = runFrom 1 Microcode.ldHlImm (withTmp n s) := rfl
theorem exec_SCF (s : State) : exec .SCF s = runFrom 0 Microcode.scf s := rfl
theorem exec_LD_A_mHLdec (s : State) : exec .LD_A_mHLdec s = runFrom 0 Microcode.ldAHlDec s := rfl
theorem exec_CCF (s : State) : exec .CCF s = runFrom 0 Microcode.ccf s := rfl
theorem exec_HALT (s : State) : exec .HALT s = runFrom 0 Microcode.halt s := rfl
theorem exec_JP_nn (nn : Word) (s : State) : exec (.JP_nn nn) s = runFrom 2 Microcode.jp (withNn nn s) := rfl
theorem exec_RET (s : State) : exec .RET s = runFrom 0 Microcode.ret s := rfl
theorem exec_CALL_nn (nn : Word) (s : State) : exec (.CALL_nn nn) s = runFrom 2 Microcode.call (withNn nn s) := rfl
theorem exec_RETI (s : State) : exec .RETI s = runFrom 0 Microcode.reti s := rfl
theorem exec_LDH_mn_A (n : Byte) (s : State) : exec (.LDH_mn_A n) s = runFrom 1 Microcode.ldhNFromA (withLsb n s) := rfl
theorem exec_LD_mC_A (s : State) : exec .LD_mC_A s = runFrom 0 (Microcode.ldATo .highC) s := rfl
theorem exec_ADD_SP_e (e : Byte) (s : State) : exec (.ADD_SP_e e) s = runFrom 1 Microcode.addSpE (withE e s) := rfl
theorem exec_JP_HL (s : State) : exec .JP_HL s = runFrom 0 Microcode.jpHl s := rfl
theorem exec_LD_mnn_A (nn : Word) (s : State) : exec (.LD_mnn_A nn) s = runFrom 2 Microcode.ldNnFromA (withNn nn s) := rfl
theorem exec_LDH_A_mn (n : Byte) (s : State) : exec (.LDH_A_mn n) s = runFrom 1 Microcode.ldhAFromN (withLsb n s) := rfl
theorem exec_LD_A_mC (s : State) : exec .LD_A_mC s = runFrom 0 (Microcode.ldAFrom .highC) s := rfl
theorem exec_DI (s : State) : exec .DI s = runFrom 0 Microcode.di s := rfl
theorem exec_LD_HL_SP_e (e : Byte) (s : State) : exec (.LD_HL_SP_e e) s = runFrom 1 Microcode.ldHlSpE (withE e s) := rfl
theorem exec_LD_SP_HL (s : State) : exec .LD_SP_HL s = runFrom 0 Microcode.ldSpHl s := rfl
theorem exec_LD_A_mnn (nn : Word) (s : State) : exec (.LD_A_mnn nn) s = runFrom 2 Microcode.ldAFromNn (withNn nn s) := rfl
theorem exec_EI (s : State) : exec .EI s = runFrom 0 Microcode.ei s := rfl

/-- How many of an instruction's micro-ops the step has run when `exec` begins (log 2): those that read its immediate bytes or its CB
byte. -/
def microopsDone (i : Instr) : Nat :=
  match (encode i).length with
  | 0 => 0
  | n + 1 => n

/-- The state `exec` runs the micro-ops from: the immediate latches filled (log 2). -/
def latchImmediates (i : Instr) (s : State) : State :=
  match i with
  | .LD_BC_nn nn => withNn nn s
  | .LD_B_n n => withTmp n s
  | .LD_mnn_SP nn => withNn nn s
  | .LD_C_n n => withTmp n s
  | .LD_DE_nn nn => withNn nn s
  | .LD_D_n n => withTmp n s
  | .JR_e e => withE e s
  | .LD_E_n n => withTmp n s
  | .JR_NZ_e e => withE e s
  | .LD_HL_nn nn => withNn nn s
  | .LD_H_n n => withTmp n s
  | .JR_Z_e e => withE e s
  | .LD_L_n n => withTmp n s
  | .JR_NC_e e => withE e s
  | .LD_SP_nn nn => withNn nn s
  | .LD_mHL_n n => withTmp n s
  | .JR_C_e e => withE e s
  | .LD_A_n n => withTmp n s
  | .JP_NZ_nn nn => withNn nn s
  | .JP_nn nn => withNn nn s
  | .CALL_NZ_nn nn => withNn nn s
  | .ADD_A_n n => withTmp n s
  | .JP_Z_nn nn => withNn nn s
  | .CALL_Z_nn nn => withNn nn s
  | .CALL_nn nn => withNn nn s
  | .ADC_A_n n => withTmp n s
  | .JP_NC_nn nn => withNn nn s
  | .CALL_NC_nn nn => withNn nn s
  | .SUB_A_n n => withTmp n s
  | .JP_C_nn nn => withNn nn s
  | .CALL_C_nn nn => withNn nn s
  | .SBC_A_n n => withTmp n s
  | .LDH_mn_A n => withLsb n s
  | .AND_A_n n => withTmp n s
  | .ADD_SP_e e => withE e s
  | .LD_mnn_A nn => withNn nn s
  | .XOR_A_n n => withTmp n s
  | .LDH_A_mn n => withLsb n s
  | .OR_A_n n => withTmp n s
  | .LD_HL_SP_e e => withE e s
  | .LD_A_mnn nn => withNn nn s
  | .CP_A_n n => withTmp n s
  | _ => s

/-- Every whole legal instruction runs the rest of its micro-op list. -/
theorem exec_eq_runFrom {i : Instr} (h : i.wellFormed = true) (s : State) :
    exec i s = runFrom (microopsDone i) (microops i) (latchImmediates i s) := by
  cases i <;> first | rfl | (exact absurd h (by decide))

end Sys2Proof.Machine
end

