-- ==== Sys2Proof/Laws/Flags.lean ====
section
/-! SUPPORT. The small lemmas of the operand forms and of F: its four flags and its low nibble (R43, R45), the halves of a word (R44),
and the offset forms (R324, R436). -/

namespace Sys2Proof.Machine

/-! ## F -/

@[simp] theorem packFlags_low (z n h c : Bool) : packFlags z n h c &&& 0x0F#8 = 0#8 := by revert z n h c; decide
@[simp] theorem flagZ_packFlags (z n h c : Bool) : flagZ (packFlags z n h c) = z := by revert z n h c; decide
@[simp] theorem flagN_packFlags (z n h c : Bool) : flagN (packFlags z n h c) = n := by revert z n h c; decide
@[simp] theorem flagH_packFlags (z n h c : Bool) : flagH (packFlags z n h c) = h := by revert z n h c; decide
@[simp] theorem flagC_packFlags (z n h c : Bool) : flagC (packFlags z n h c) = c := by revert z n h c; decide
@[simp] theorem maskF_low (v : Byte) : maskF v &&& 0x0F#8 = 0#8 := by revert v; decide

/-! ## Words -/

@[simp] theorem highByte_word (hi lo : Byte) : highByte (word hi lo) = hi := by
  unfold highByte word
  ext i h
  simp only [BitVec.getElem_extractLsb', BitVec.getLsbD_append]
  simp [h, BitVec.getLsbD_eq_getElem]

@[simp] theorem lowByte_word (hi lo : Byte) : lowByte (word hi lo) = lo := by
  unfold lowByte word
  ext i h
  simp only [BitVec.getElem_extractLsb', BitVec.getLsbD_append]
  simp [h, BitVec.getLsbD_eq_getElem]

@[simp] theorem word_highByte_lowByte (v : Word) : word (highByte v) (lowByte v) = v := by
  unfold word highByte lowByte
  rw [BitVec.extractLsb'_append_extractLsb'_eq_extractLsb' (by rfl)]
  simp

/-- Adding the sign-extended byte is adding its signed value, modulo 2^16 (R324). -/
theorem add_signExtend8 (v : Word) (e : Byte) : v + signExtend8 e = BitVec.ofInt 16 (v.toNat + e.toInt) := by
  rw [BitVec.ofInt_add]
  simp [signExtend8, BitVec.signExtend]

end Sys2Proof.Machine
end

