-- ==== Sys2Proof/Laws/Cpu.lean ====
section
/-! SUPPORT. A normal form for the states inside an instruction: a state of the devices and memory, with the CPU's register file, latches and
queue set beside it. Time and bus accesses pass through the CPU's part, so a run of micro-ops comes down to a device state
built from `tick`, `memRead` and `memWrite`, and a register file. -/

namespace Sys2Proof.Machine

/-- The state `s` with this register file, these latches and this queue. -/
def withCpu (s : State) (r : Regs) (x : Ctx) (q : List Micro) (k : Nat) : State :=
  { s with regs := r, eng := { s.eng with ctx := x, queue := q, qi := k } }

theorem eq_withCpu (s : State) : s = withCpu s s.regs s.eng.ctx s.eng.queue s.eng.qi := rfl

section WithCpu
variable (s : State) (r : Regs) (x : Ctx) (q : List Micro) (k : Nat)

@[simp] theorem withCpu_regs : (withCpu s r x q k).regs = r := rfl
@[simp] theorem withCpu_ctx : (withCpu s r x q k).eng.ctx = x := rfl
@[simp] theorem withCpu_queue : (withCpu s r x q k).eng.queue = q := rfl
@[simp] theorem withCpu_qi : (withCpu s r x q k).eng.qi = k := rfl
@[simp] theorem withCpu_ime : (withCpu s r x q k).eng.ime = s.eng.ime := rfl
@[simp] theorem withCpu_run : (withCpu s r x q k).eng.run = s.eng.run := rfl
@[simp] theorem withCpu_haltBug : (withCpu s r x q k).eng.haltBug = s.eng.haltBug := rfl
@[simp] theorem withCpu_fault : (withCpu s r x q k).eng.fault = s.eng.fault := rfl
@[simp] theorem withCpu_intr : (withCpu s r x q k).intr = s.intr := rfl
@[simp] theorem withCpu_timer : (withCpu s r x q k).timer = s.timer := rfl
@[simp] theorem withCpu_joy : (withCpu s r x q k).joy = s.joy := rfl
@[simp] theorem withCpu_dma : (withCpu s r x q k).dma = s.dma := rfl
@[simp] theorem withCpu_mem : (withCpu s r x q k).mem = s.mem := rfl
@[simp] theorem withCpu_cart : (withCpu s r x q k).cart = s.cart := rfl
@[simp] theorem withCpu_env : (withCpu s r x q k).env = s.env := rfl
@[simp] theorem withCpu_params : (withCpu s r x q k).params = s.params := rfl
@[simp] theorem withCpu_vbkRefused : (withCpu s r x q k).vbkRefused = s.vbkRefused := rfl

@[simp] theorem withCpu_withCpu (r' : Regs) (x' : Ctx) (q' : List Micro) (k' : Nat) :
    withCpu (withCpu s r x q k) r' x' q' k' = withCpu s r' x' q' k' := rfl

@[simp] theorem read8_withCpu (a : Word) : read8 (withCpu s r x q k) a = read8 s a := rfl
@[simp] theorem steady_withCpu (a : Word) : steady (withCpu s r x q k) a = steady s a := rfl
@[simp] theorem reaches_withCpu (a b : Word) : reaches (withCpu s r x q k) a b = reaches s a b := rfl
@[simp] theorem cellAt_withCpu (a : Word) : cellAt (withCpu s r x q k) a = cellAt s a := rfl
@[simp] theorem pending_withCpu : pending (withCpu s r x q k) = pending s := rfl

@[simp] theorem tick_withCpu : tick (withCpu s r x q k) = withCpu (tick s) r x q k := rfl
@[simp] theorem memRead_withCpu (a : Word) : memRead (withCpu s r x q k) a = withCpu (memRead s a) r x q k := rfl

theorem writeIo_withCpu (a : Word) (v : Byte) : writeIo (withCpu s r x q k) a v = withCpu (writeIo s a v) r x q k := by
  unfold writeIo
  simp only [withCpu_params]
  split <;> first | rfl | (split <;> rfl)

theorem write8_withCpu (a : Word) (v : Byte) : write8 (withCpu s r x q k) a v = withCpu (write8 s a v) r x q k := by
  unfold write8
  split <;> first | rfl | exact writeIo_withCpu s r x q k a v

@[simp] theorem memWrite_withCpu (a : Word) (v : Byte) :
    memWrite (withCpu s r x q k) a v = withCpu (memWrite s a v) r x q k :=
  write8_withCpu (logAccess s true a v) r x q k a v

@[simp] theorem setRegs_withCpu (f : Regs → Regs) : setRegs (withCpu s r x q k) f = withCpu s (f r) x q k := rfl
@[simp] theorem setCtx_withCpu (f : Ctx → Ctx) : setCtx (withCpu s r x q k) f = withCpu s r (f x) q k := rfl
@[simp] theorem setPc_withCpu (v : Word) : setPc (withCpu s r x q k) v = withCpu s { r with pc := v } x q k := rfl
@[simp] theorem setSp_withCpu (v : Word) : setSp (withCpu s r x q k) v = withCpu s { r with sp := v } x q k := rfl
@[simp] theorem setIme_withCpu (v : Ime) : setIme (withCpu s r x q k) v = withCpu (setIme s v) r x q k := rfl
@[simp] theorem withQueue_withCpu (ops : List Micro) (j : Nat) :
    withQueue (withCpu s r x q k) ops j = withCpu s r x ops j := rfl
theorem withQueue_eq_withCpu (ops : List Micro) (j : Nat) :
    withQueue s ops j = withCpu s s.regs s.eng.ctx ops j := rfl
@[simp] theorem withTmp_withCpu (n : Byte) : withTmp n (withCpu s r x q k) = withCpu s r (x.latch .tmp n) q k := rfl
@[simp] theorem withLsb_withCpu (n : Byte) : withLsb n (withCpu s r x q k) = withCpu s r (x.latch .lsb n) q k := rfl
@[simp] theorem withE_withCpu (n : Byte) : withE n (withCpu s r x q k) = withCpu s r (x.latch .e n) q k := rfl
@[simp] theorem withNn_withCpu (nn : Word) : withNn nn (withCpu s r x q k) =
    withCpu s r ((x.latch .lsb (lowByte nn)).latch .msb (highByte nn)) q k := rfl
theorem withTmp_eq_withCpu (n : Byte) : withTmp n s = withCpu s s.regs (s.eng.ctx.latch .tmp n) s.eng.queue s.eng.qi := rfl
theorem withLsb_eq_withCpu (n : Byte) : withLsb n s = withCpu s s.regs (s.eng.ctx.latch .lsb n) s.eng.queue s.eng.qi := rfl
theorem withE_eq_withCpu (n : Byte) : withE n s = withCpu s s.regs (s.eng.ctx.latch .e n) s.eng.queue s.eng.qi := rfl
theorem withNn_eq_withCpu (nn : Word) : withNn nn s =
    withCpu s s.regs ((s.eng.ctx.latch .lsb (lowByte nn)).latch .msb (highByte nn)) s.eng.queue s.eng.qi := rfl

@[simp] theorem pushByte_withCpu (v : Byte) : pushByte (withCpu s r x q k) v =
    withCpu (memWrite s (r.sp - 1) v) { r with sp := r.sp - 1 } x q k := by
  simp [pushByte]
@[simp] theorem popByte_withCpu : popByte (withCpu s r x q k) =
    withCpu (memRead s r.sp) { r with sp := r.sp + 1 } x q k := rfl
@[simp] theorem immRead_withCpu : immRead (withCpu s r x q k) =
    withCpu (memRead s r.pc) { r with pc := r.pc + 1 } x q k := rfl
@[simp] theorem loadTmp_withCpu (a : Word) : loadTmp (withCpu s r x q k) a =
    withCpu (memRead s a) r { x with tmp := read8 s a } q k := rfl
@[simp] theorem popLatch_withCpu (l : Latch) : popLatch (withCpu s r x q k) l =
    withCpu (memRead s r.sp) { r with sp := r.sp + 1 } (x.latch l (read8 s r.sp)) q k := rfl
@[simp] theorem setAF_withCpu (v : Byte × Byte) : setAF (withCpu s r x q k) v =
    withCpu s { r with a := v.1, f := v.2 } x q k := rfl
@[simp] theorem setF_withCpu (f : Byte) : setF (withCpu s r x q k) f = withCpu s { r with f := f } x q k := rfl
@[simp] theorem setRegF_withCpu (y : Reg8) (v : Byte × Byte) : setRegF (withCpu s r x q k) y v =
    withCpu s { r.set y v.1 with f := v.2 } x q k := rfl
@[simp] theorem storeHlF_withCpu (v : Byte × Byte) : storeHlF (withCpu s r x q k) v =
    withCpu (memWrite s r.hl v.1) { r with f := v.2 } x q k := by
  simp [storeHlF]

end WithCpu

/-! ## Micro-ops in normal form -/

/-- The queue one micro-op further. -/
def bumpQi (s : State) : State := { s with eng := { s.eng with qi := s.eng.qi + 1 } }

@[simp] theorem bumpQi_withCpu (s : State) (r : Regs) (x : Ctx) (q : List Micro) (k : Nat) :
    bumpQi (withCpu s r x q k) = withCpu s r x q (k + 1) := rfl

/-- A plain micro-op at the head of a run, in normal form. -/
theorem runRest_does_withCpu (op : MicroOp) (rest : List Micro) (s : State) (r : Regs) (x : Ctx) (q : List Micro) (k : Nat) :
    runRest (does op :: rest) (withCpu s r x q k) = runRest rest (bumpQi (micro op (withCpu (tick s) r x q k))) := rfl

/-- A conditional micro-op whose condition holds, in normal form. -/
theorem runRest_true_withCpu {cc : Cond} {r : Regs} (h : condHolds cc r.f = true) (op : MicroOp) (rest : List Micro) (s : State)
    (x : Ctx) (q : List Micro) (k : Nat) :
    runRest (onlyIf cc op :: rest) (withCpu s r x q k) = runRest rest (bumpQi (micro op (withCpu (tick s) r x q k))) := by
  rw [runRest_onlyIf_true (s := withCpu s r x q k) h]; rfl

/-- A conditional micro-op whose condition fails, in normal form. -/
theorem runRest_false_withCpu {cc : Cond} {r : Regs} (h : condHolds cc r.f = false) (op : MicroOp) (rest : List Micro) (s : State)
    (x : Ctx) (q : List Micro) (k : Nat) :
    runRest (onlyIf cc op :: rest) (withCpu s r x q k) = withCpu (tick s) r x q q.length := by
  rw [runRest_onlyIf_false (s := withCpu s r x q k) h]; rfl

/-! ## IME and run state -/

/-- EI as a test for DISABLED (R575). -/
theorem requestIme_eq (s : State) :
    requestIme s = setIme s (if s.eng.ime = .disabled then .requested else s.eng.ime) := by
  unfold requestIme
  cases h : s.eng.ime <;> simp

@[simp] theorem requestIme_withCpu (s : State) (r : Regs) (x : Ctx) (q : List Micro) (k : Nat) :
    requestIme (withCpu s r x q k) = withCpu (requestIme s) r x q k := rfl

@[simp] theorem haltCpu_withCpu (s : State) (r : Regs) (x : Ctx) (q : List Micro) (k : Nat) :
    haltCpu (withCpu s r x q k) = withCpu (haltCpu s) r x q k := rfl

/-! ## Latches -/

@[simp] theorem Ctx.latch_tmp (x : Ctx) (v : Byte) : (x.latch .tmp v).tmp = v := rfl
@[simp] theorem Ctx.latch_e (x : Ctx) (v : Byte) : (x.latch .e v).e = v := rfl
@[simp] theorem Ctx.latch_lsb (x : Ctx) (v : Byte) : (x.latch .lsb v).lsb = v := rfl
@[simp] theorem Ctx.latch_msb (x : Ctx) (v : Byte) : (x.latch .msb v).msb = v := rfl
@[simp] theorem Ctx.nn_latch (x : Ctx) (lo hi : Byte) : ((x.latch .lsb lo).latch .msb hi).nn = word hi lo := rfl

@[simp] theorem Ctx.nn_latch_bytes (x : Ctx) (v : Word) :
    ((x.latch .lsb (lowByte v)).latch .msb (highByte v)).nn = v := by
  rw [Ctx.nn_latch, word_highByte_lowByte]

/-! ## Ends -/

@[simp] theorem exhausted_withCpu (s : State) (r : Regs) (x : Ctx) (q : List Micro) (k : Nat) :
    exhausted (withCpu s r x q k) = decide (q.length ≤ k) := rfl

theorem agrees_withCpu {u : State} {r : Regs} {x : Ctx} {q : List Micro} {k : Nat} (h : q.length ≤ k) :
    AgreesOutsideRegs (withCpu u r x q k) u := ⟨rfl, by simpa using h⟩

/-- The end of an instruction in normal form completes with its register file and its device state. -/
theorem completes_finish {u s : State} {r : Regs} {x : Ctx} {q : List Micro} {k : Nat} (hv : u.vbkRefused = false)
    (hk : q.length ≤ k) (hf : ∀ b, steady s b = true → read8 u b = read8 s b) :
    Completes (finish (withCpu u r x q k)) r u s :=
  ⟨_, finish_next hv, rfl, agrees_withCpu hk, hf⟩

/-- As `completes_finish`, for an instruction that stores. -/
theorem completesStoring_finish {u s : State} {r : Regs} {x : Ctx} {q : List Micro} {k : Nat} {a : Word} {v : Byte}
    (hv : u.vbkRefused = false) (hk : q.length ≤ k)
    (hc : ∀ c, cellAt s a = some c → steady s a = true → read8 u a = keptByte c v)
    (hf : ∀ b, steady s b = true → reaches s a b = false → read8 u b = read8 s b) :
    CompletesStoring (finish (withCpu u r x q k)) r u s a v :=
  ⟨_, finish_next hv, rfl, agrees_withCpu hk, hc, hf⟩

end Sys2Proof.Machine
end

