-- ==== Sys2Proof/Laws/Fetch.lean ====
section
/-! SUPPORT. The bytes of an instruction: how the encoder's immediate bytes make the decoder's word, and everything that reading an
instruction's bytes does to the registers and to steady addresses. -/

namespace Sys2Proof

theorem getLsbD_immWord (lo hi : Byte) (i : Nat) :
    (immWord lo hi).getLsbD i = if i < 8 then lo.getLsbD i else hi.getLsbD (i - 8) := by
  show (hi ++ lo : BitVec (8 + 8)).getLsbD i = _
  rw [BitVec.getLsbD_append]

/-- A word is the one its two immediate bytes make (R324). -/
@[simp] theorem immWord_immLow_immHigh (nn : Word) : immWord (immLow nn) (immHigh nn) = nn := by
  apply BitVec.eq_of_getLsbD_eq
  intro i hi
  rw [getLsbD_immWord]
  split
  · next h => simp [immLow, BitVec.getLsbD_setWidth, h]
  · next h =>
    simp only [immHigh, BitVec.getLsbD_extractLsb']
    rw [show 8 + (i - 8) = i by omega]
    simp
    omega

@[simp] theorem immLow_immWord (lo hi : Byte) : immLow (immWord lo hi) = lo := by
  apply BitVec.eq_of_getLsbD_eq
  intro i h
  simp only [immLow, BitVec.getLsbD_setWidth, getLsbD_immWord, h, if_true, decide_true, Bool.true_and]

@[simp] theorem immHigh_immWord (lo hi : Byte) : immHigh (immWord lo hi) = hi := by
  apply BitVec.eq_of_getLsbD_eq
  intro i h
  have h8 : ¬ (8 + i < 8) := by omega
  simp only [immHigh, BitVec.getLsbD_extractLsb', getLsbD_immWord, h, h8, if_false, decide_true, Bool.true_and,
    Nat.add_sub_cancel_left]

namespace Machine

/-- PC after the opcode fetch (R51, R366). -/
theorem fetchOpcode_pc (s : State) : (fetchOpcode s).regs.pc = if s.eng.haltBug then s.regs.pc else s.regs.pc + 1 := rfl

@[simp] theorem fetchOpcode_haltBug (s : State) : (fetchOpcode s).eng.haltBug = false := rfl
@[simp] theorem fetchOpcode_addr (s : State) : (fetchOpcode s).eng.ctx.addr = s.regs.pc := rfl
@[simp] theorem fetchOpcode_vbkRefused (s : State) : (fetchOpcode s).vbkRefused = s.vbkRefused := rfl
@[simp] theorem immRead_pc (s : State) : (immRead s).regs.pc = s.regs.pc + 1 := rfl
@[simp] theorem bytesRead_zero (s : State) : bytesRead 0 s = fetchOpcode s := rfl
@[simp] theorem bytesRead_succ (n : Nat) (s : State) : bytesRead (n + 1) s = immRead (tick (bytesRead n s)) := rfl

theorem read8_fetchOpcode {s : State} {b : Word} (h : steady s b = true) : read8 (fetchOpcode s) b = read8 s b :=
  read8_memRead s.regs.pc h

theorem steady_fetchOpcode {s : State} {b : Word} (h : steady s b = true) : steady (fetchOpcode s) b = true :=
  steady_memRead s.regs.pc h

theorem read8_immRead {s : State} {b : Word} (h : steady s b = true) : read8 (immRead s) b = read8 s b :=
  read8_memRead s.regs.pc h

theorem steady_immRead {s : State} {b : Word} (h : steady s b = true) : steady (immRead s) b = true :=
  steady_memRead s.regs.pc h

/-- Reading an instruction's bytes keeps every steady address steady. -/
theorem steady_bytesRead {s : State} {b : Word} (n : Nat) (h : steady s b = true) : steady (bytesRead n s) b = true := by
  induction n with
  | zero => exact steady_fetchOpcode h
  | succ n ih => exact steady_immRead (steady_tick ih)

/-- PC after an instruction's bytes have been read. -/
theorem bytesRead_pc (n : Nat) (s : State) :
    (bytesRead n s).regs.pc = s.regs.pc + BitVec.ofNat 16 (if s.eng.haltBug then n else n + 1) := by
  induction n with
  | zero => show (fetchOpcode s).regs.pc = _; rw [fetchOpcode_pc]; split <;> simp
  | succ n ih =>
    have h1 : (bytesRead (n + 1) s).regs.pc = (bytesRead n s).regs.pc + 1 := rfl
    rw [h1, ih]
    split <;> (apply BitVec.eq_of_toNat_eq; simp; omega)

end Machine

end Sys2Proof
end

