-- ==== Sys2Proof/Laws/PerInstr.lean ====
section
/-! SUPPORT. One lemma per row of the instruction set about the row as syntax: its length in bytes and the length of its micro-op list agree
with the table of cycle counts of R327 and R330, and the engine's queue for its opcode bytes is its micro-op list. -/

namespace Sys2Proof

namespace Laws

namespace Cycles

open Machine

/-- The entry of R327 or, for a CB-prefixed instruction, what R330 says: (length, bus cycles taken, bus cycles not taken). -/
def entry (bytes : List Byte) : Nat × Nat × Nat :=
  match bytes with
  | 0xCB :: cb :: _ => if cb &&& 7 ≠ 6 then (2, 2, 2) else if cb &&& 0xC0 = 0x40 then (2, 3, 3) else (2, 4, 4)
  | op :: _ => cycleEntry op
  | [] => (0, 0, 0)

/-- How many bus cycles a micro-op list takes where its conditional micro-op fails. -/
def untaken : List Micro → Nat
  | [] => 0
  | m :: rest => if m.guard.isSome then 1 else 1 + untaken rest

/-- The micro-op list the engine gets from the opcode bytes (R366, R367). -/
def queueOf (bytes : List Byte) : List Micro :=
  match bytes with
  | 0xCB :: cb :: _ => does .prefixCB :: cbMicroops cb
  | op :: _ => opcodeMicroops op
  | [] => []

/-- What each row's lemma says; the prefix byte alone and the illegal opcodes have no count. -/
def Statement (i : Instr) : Prop :=
  i.wellFormed = true → (encode i).length = (entry (encode i)).1 ∧ (microops i).length = (entry (encode i)).2.1 ∧
    untaken (microops i) = (entry (encode i)).2.2 ∧ queueOf (encode i) = microops i

theorem NOP : Statement .NOP := fun _ => ⟨rfl, rfl, rfl, rfl⟩
theorem LD_BC_nn (nn : Word) : Statement (.LD_BC_nn nn) := fun _ => ⟨rfl, rfl, rfl, rfl⟩
theorem LD_mBC_A : Statement .LD_mBC_A := fun _ => ⟨rfl, rfl, rfl, rfl⟩
theorem INC_BC : Statement .INC_BC := fun _ => ⟨rfl, rfl, rfl, rfl⟩
theorem INC_B : Statement .INC_B := fun _ => ⟨rfl, rfl, rfl, rfl⟩
theorem DEC_B : Statement .DEC_B := fun _ => ⟨rfl, rfl, rfl, rfl⟩
theorem LD_B_n (n : Byte) : Statement (.LD_B_n n) := fun _ => ⟨rfl, rfl, rfl, rfl⟩
theorem RLCA : Statement .RLCA := fun _ => ⟨rfl, rfl, rfl, rfl⟩
theorem LD_mnn_SP (nn : Word) : Statement (.LD_mnn_SP nn) := fun _ => ⟨rfl, rfl, rfl, rfl⟩
theorem ADD_HL_BC : Statement .ADD_HL_BC := fun _ => ⟨rfl, rfl, rfl, rfl⟩
theorem LD_A_mBC : Statement .LD_A_mBC := fun _ => ⟨rfl, rfl, rfl, rfl⟩
theorem DEC_BC : Statement .DEC_BC := fun _ => ⟨rfl, rfl, rfl, rfl⟩
theorem INC_C : Statement .INC_C := fun _ => ⟨rfl, rfl, rfl, rfl⟩
theorem DEC_C : Statement .DEC_C := fun _ => ⟨rfl, rfl, rfl, rfl⟩
theorem LD_C_n (n : Byte) : Statement (.LD_C_n n) := fun _ => ⟨rfl, rfl, rfl, rfl⟩
theorem RRCA : Statement .RRCA := fun _ => ⟨rfl, rfl, rfl, rfl⟩
theorem STOP : Statement .STOP := fun _ => ⟨rfl, rfl, rfl, rfl⟩
theorem LD_DE_nn (nn : Word) : Statement (.LD_DE_nn nn) := fun _ => ⟨rfl, rfl, rfl, rfl⟩
theorem LD_mDE_A : Statement .LD_mDE_A := fun _ => ⟨rfl, rfl, rfl, rfl⟩
theorem INC_DE : Statement .INC_DE := fun _ => ⟨rfl, rfl, rfl, rfl⟩
theorem INC_D : Statement .INC_D := fun _ => ⟨rfl, rfl, rfl, rfl⟩
theorem DEC_D : Statement .DEC_D := fun _ => ⟨rfl, rfl, rfl, rfl⟩
theorem LD_D_n (n : Byte) : Statement (.LD_D_n n) := fun _ => ⟨rfl, rfl, rfl, rfl⟩
theorem RLA : Statement .RLA := fun _ => ⟨rfl, rfl, rfl, rfl⟩
theorem JR_e (e : Byte) : Statement (.JR_e e) := fun _ => ⟨rfl, rfl, rfl, rfl⟩
theorem ADD_HL_DE : Statement .ADD_HL_DE := fun _ => ⟨rfl, rfl, rfl, rfl⟩
theorem LD_A_mDE : Statement .LD_A_mDE := fun _ => ⟨rfl, rfl, rfl, rfl⟩
theorem DEC_DE : Statement .DEC_DE := fun _ => ⟨rfl, rfl, rfl, rfl⟩
theorem INC_E : Statement .INC_E := fun _ => ⟨rfl, rfl, rfl, rfl⟩
theorem DEC_E : Statement .DEC_E := fun _ => ⟨rfl, rfl, rfl, rfl⟩
theorem LD_E_n (n : Byte) : Statement (.LD_E_n n) := fun _ => ⟨rfl, rfl, rfl, rfl⟩
theorem RRA : Statement .RRA := fun _ => ⟨rfl, rfl, rfl, rfl⟩
theorem JR_NZ_e (e : Byte) : Statement (.JR_NZ_e e) := fun _ => ⟨rfl, rfl, rfl, rfl⟩
theorem LD_HL_nn (nn : Word) : Statement (.LD_HL_nn nn) := fun _ => ⟨rfl, rfl, rfl, rfl⟩
theorem LD_mHLinc_A : Statement .LD_mHLinc_A := fun _ => ⟨rfl, rfl, rfl, rfl⟩
theorem INC_HL : Statement .INC_HL := fun _ => ⟨rfl, rfl, rfl, rfl⟩
theorem INC_H : Statement .INC_H := fun _ => ⟨rfl, rfl, rfl, rfl⟩
theorem DEC_H : Statement .DEC_H := fun _ => ⟨rfl, rfl, rfl, rfl⟩
theorem LD_H_n (n : Byte) : Statement (.LD_H_n n) := fun _ => ⟨rfl, rfl, rfl, rfl⟩
theorem DAA : Statement .DAA := fun _ => ⟨rfl, rfl, rfl, rfl⟩
theorem JR_Z_e (e : Byte) : Statement (.JR_Z_e e) := fun _ => ⟨rfl, rfl, rfl, rfl⟩
theorem ADD_HL_HL : Statement .ADD_HL_HL := fun _ => ⟨rfl, rfl, rfl, rfl⟩
theorem LD_A_mHLinc : Statement .LD_A_mHLinc := fun _ => ⟨rfl, rfl, rfl, rfl⟩
theorem DEC_HL : Statement .DEC_HL := fun _ => ⟨rfl, rfl, rfl, rfl⟩
theorem INC_L : Statement .INC_L := fun _ => ⟨rfl, rfl, rfl, rfl⟩
theorem DEC_L : Statement .DEC_L := fun _ => ⟨rfl, rfl, rfl, rfl⟩
theorem LD_L_n (n : Byte) : Statement (.LD_L_n n) := fun _ => ⟨rfl, rfl, rfl, rfl⟩
theorem CPL : Statement .CPL := fun _ => ⟨rfl, rfl, rfl, rfl⟩
theorem JR_NC_e (e : Byte) : Statement (.JR_NC_e e) := fun _ => ⟨rfl, rfl, rfl, rfl⟩
theorem LD_SP_nn (nn : Word) : Statement (.LD_SP_nn nn) := fun _ => ⟨rfl, rfl, rfl, rfl⟩
theorem LD_mHLdec_A : Statement .LD_mHLdec_A := fun _ => ⟨rfl, rfl, rfl, rfl⟩
theorem INC_SP : Statement .INC_SP := fun _ => ⟨rfl, rfl, rfl, rfl⟩
theorem INC_mHL : Statement .INC_mHL := fun _ => ⟨rfl, rfl, rfl, rfl⟩
theorem DEC_mHL : Statement .DEC_mHL := fun _ => ⟨rfl, rfl, rfl, rfl⟩
theorem LD_mHL_n (n : Byte) : Statement (.LD_mHL_n n) := fun _ => ⟨rfl, rfl, rfl, rfl⟩
theorem SCF : Statement .SCF := fun _ => ⟨rfl, rfl, rfl, rfl⟩
theorem JR_C_e (e : Byte) : Statement (.JR_C_e e) := fun _ => ⟨rfl, rfl, rfl, rfl⟩
theorem ADD_HL_SP : Statement .ADD_HL_SP := fun _ => ⟨rfl, rfl, rfl, rfl⟩
theorem LD_A_mHLdec : Statement .LD_A_mHLdec := fun _ => ⟨rfl, rfl, rfl, rfl⟩
theorem DEC_SP : Statement .DEC_SP := fun _ => ⟨rfl, rfl, rfl, rfl⟩
theorem INC_A : Statement .INC_A := fun _ => ⟨rfl, rfl, rfl, rfl⟩
theorem DEC_A : Statement .DEC_A := fun _ => ⟨rfl, rfl, rfl, rfl⟩
theorem LD_A_n (n : Byte) : Statement (.LD_A_n n) := fun _ => ⟨rfl, rfl, rfl, rfl⟩
theorem CCF : Statement .CCF := fun _ => ⟨rfl, rfl, rfl, rfl⟩
theorem LD_B_B : Statement .LD_B_B := fun _ => ⟨rfl, rfl, rfl, rfl⟩
theorem LD_B_C : Statement .LD_B_C := fun _ => ⟨rfl, rfl, rfl, rfl⟩
theorem LD_B_D : Statement .LD_B_D := fun _ => ⟨rfl, rfl, rfl, rfl⟩
theorem LD_B_E : Statement .LD_B_E := fun _ => ⟨rfl, rfl, rfl, rfl⟩
theorem LD_B_H : Statement .LD_B_H := fun _ => ⟨rfl, rfl, rfl, rfl⟩
theorem LD_B_L : Statement .LD_B_L := fun _ => ⟨rfl, rfl, rfl, rfl⟩
theorem LD_B_mHL : Statement .LD_B_mHL := fun _ => ⟨rfl, rfl, rfl, rfl⟩
theorem LD_B_A : Statement .LD_B_A := fun _ => ⟨rfl, rfl, rfl, rfl⟩
theorem LD_C_B : Statement .LD_C_B := fun _ => ⟨rfl, rfl, rfl, rfl⟩
theorem LD_C_C : Statement .LD_C_C := fun _ => ⟨rfl, rfl, rfl, rfl⟩
theorem LD_C_D : Statement .LD_C_D := fun _ => ⟨rfl, rfl, rfl, rfl⟩
theorem LD_C_E : Statement .LD_C_E := fun _ => ⟨rfl, rfl, rfl, rfl⟩
theorem LD_C_H : Statement .LD_C_H := fun _ => ⟨rfl, rfl, rfl, rfl⟩
theorem LD_C_L : Statement .LD_C_L := fun _ => ⟨rfl, rfl, rfl, rfl⟩
theorem LD_C_mHL : Statement .LD_C_mHL := fun _ => ⟨rfl, rfl, rfl, rfl⟩
theorem LD_C_A : Statement .LD_C_A := fun _ => ⟨rfl, rfl, rfl, rfl⟩
theorem LD_D_B : Statement .LD_D_B := fun _ => ⟨rfl, rfl, rfl, rfl⟩
theorem LD_D_C : Statement .LD_D_C := fun _ => ⟨rfl, rfl, rfl, rfl⟩
theorem LD_D_D : Statement .LD_D_D := fun _ => ⟨rfl, rfl, rfl, rfl⟩
theorem LD_D_E : Statement .LD_D_E := fun _ => ⟨rfl, rfl, rfl, rfl⟩
theorem LD_D_H : Statement .LD_D_H := fun _ => ⟨rfl, rfl, rfl, rfl⟩
theorem LD_D_L : Statement .LD_D_L := fun _ => ⟨rfl, rfl, rfl, rfl⟩
theorem LD_D_mHL : Statement .LD_D_mHL := fun _ => ⟨rfl, rfl, rfl, rfl⟩
theorem LD_D_A : Statement .LD_D_A := fun _ => ⟨rfl, rfl, rfl, rfl⟩
theorem LD_E_B : Statement .LD_E_B := fun _ => ⟨rfl, rfl, rfl, rfl⟩
theorem LD_E_C : Statement .LD_E_C := fun _ => ⟨rfl, rfl, rfl, rfl⟩
theorem LD_E_D : Statement .LD_E_D := fun _ => ⟨rfl, rfl, rfl, rfl⟩
theorem LD_E_E : Statement .LD_E_E := fun _ => ⟨rfl, rfl, rfl, rfl⟩
theorem LD_E_H : Statement .LD_E_H := fun _ => ⟨rfl, rfl, rfl, rfl⟩
theorem LD_E_L : Statement .LD_E_L := fun _ => ⟨rfl, rfl, rfl, rfl⟩
theorem LD_E_mHL : Statement .LD_E_mHL := fun _ => ⟨rfl, rfl, rfl, rfl⟩
theorem LD_E_A : Statement .LD_E_A := fun _ => ⟨rfl, rfl, rfl, rfl⟩
theorem LD_H_B : Statement .LD_H_B := fun _ => ⟨rfl, rfl, rfl, rfl⟩
theorem LD_H_C : Statement .LD_H_C := fun _ => ⟨rfl, rfl, rfl, rfl⟩
theorem LD_H_D : Statement .LD_H_D := fun _ => ⟨rfl, rfl, rfl, rfl⟩
theorem LD_H_E : Statement .LD_H_E := fun _ => ⟨rfl, rfl, rfl, rfl⟩
theorem LD_H_H : Statement .LD_H_H := fun _ => ⟨rfl, rfl, rfl, rfl⟩
theorem LD_H_L : Statement .LD_H_L := fun _ => ⟨rfl, rfl, rfl, rfl⟩
theorem LD_H_mHL : Statement .LD_H_mHL := fun _ => ⟨rfl, rfl, rfl, rfl⟩
theorem LD_H_A : Statement .LD_H_A := fun _ => ⟨rfl, rfl, rfl, rfl⟩
theorem LD_L_B : Statement .LD_L_B := fun _ => ⟨rfl, rfl, rfl, rfl⟩
theorem LD_L_C : Statement .LD_L_C := fun _ => ⟨rfl, rfl, rfl, rfl⟩
theorem LD_L_D : Statement .LD_L_D := fun _ => ⟨rfl, rfl, rfl, rfl⟩
theorem LD_L_E : Statement .LD_L_E := fun _ => ⟨rfl, rfl, rfl, rfl⟩
theorem LD_L_H : Statement .LD_L_H := fun _ => ⟨rfl, rfl, rfl, rfl⟩
theorem LD_L_L : Statement .LD_L_L := fun _ => ⟨rfl, rfl, rfl, rfl⟩
theorem LD_L_mHL : Statement .LD_L_mHL := fun _ => ⟨rfl, rfl, rfl, rfl⟩
theorem LD_L_A : Statement .LD_L_A := fun _ => ⟨rfl, rfl, rfl, rfl⟩
theorem LD_mHL_B : Statement .LD_mHL_B := fun _ => ⟨rfl, rfl, rfl, rfl⟩
theorem LD_mHL_C : Statement .LD_mHL_C := fun _ => ⟨rfl, rfl, rfl, rfl⟩
theorem LD_mHL_D : Statement .LD_mHL_D := fun _ => ⟨rfl, rfl, rfl, rfl⟩
theorem LD_mHL_E : Statement .LD_mHL_E := fun _ => ⟨rfl, rfl, rfl, rfl⟩
theorem LD_mHL_H : Statement .LD_mHL_H := fun _ => ⟨rfl, rfl, rfl, rfl⟩
theorem LD_mHL_L : Statement .LD_mHL_L := fun _ => ⟨rfl, rfl, rfl, rfl⟩
theorem HALT : Statement .HALT := fun _ => ⟨rfl, rfl, rfl, rfl⟩
theorem LD_mHL_A : Statement .LD_mHL_A := fun _ => ⟨rfl, rfl, rfl, rfl⟩
theorem LD_A_B : Statement .LD_A_B := fun _ => ⟨rfl, rfl, rfl, rfl⟩
theorem LD_A_C : Statement .LD_A_C := fun _ => ⟨rfl, rfl, rfl, rfl⟩
theorem LD_A_D : Statement .LD_A_D := fun _ => ⟨rfl, rfl, rfl, rfl⟩
theorem LD_A_E : Statement .LD_A_E := fun _ => ⟨rfl, rfl, rfl, rfl⟩
theorem LD_A_H : Statement .LD_A_H := fun _ => ⟨rfl, rfl, rfl, rfl⟩
theorem LD_A_L : Statement .LD_A_L := fun _ => ⟨rfl, rfl, rfl, rfl⟩
theorem LD_A_mHL : Statement .LD_A_mHL := fun _ => ⟨rfl, rfl, rfl, rfl⟩
theorem LD_A_A : Statement .LD_A_A := fun _ => ⟨rfl, rfl, rfl, rfl⟩
theorem ADD_A_B : Statement .ADD_A_B := fun _ => ⟨rfl, rfl, rfl, rfl⟩
theorem ADD_A_C : Statement .ADD_A_C := fun _ => ⟨rfl, rfl, rfl, rfl⟩
theorem ADD_A_D : Statement .ADD_A_D := fun _ => ⟨rfl, rfl, rfl, rfl⟩
theorem ADD_A_E : Statement .ADD_A_E := fun _ => ⟨rfl, rfl, rfl, rfl⟩
theorem ADD_A_H : Statement .ADD_A_H := fun _ => ⟨rfl, rfl, rfl, rfl⟩
theorem ADD_A_L : Statement .ADD_A_L := fun _ => ⟨rfl, rfl, rfl, rfl⟩
theorem ADD_A_mHL : Statement .ADD_A_mHL := fun _ => ⟨rfl, rfl, rfl, rfl⟩
theorem ADD_A_A : Statement .ADD_A_A := fun _ => ⟨rfl, rfl, rfl, rfl⟩
theorem ADC_A_B : Statement .ADC_A_B := fun _ => ⟨rfl, rfl, rfl, rfl⟩
theorem ADC_A_C : Statement .ADC_A_C := fun _ => ⟨rfl, rfl, rfl, rfl⟩
theorem ADC_A_D : Statement .ADC_A_D := fun _ => ⟨rfl, rfl, rfl, rfl⟩
theorem ADC_A_E : Statement .ADC_A_E := fun _ => ⟨rfl, rfl, rfl, rfl⟩
theorem ADC_A_H : Statement .ADC_A_H := fun _ => ⟨rfl, rfl, rfl, rfl⟩
theorem ADC_A_L : Statement .ADC_A_L := fun _ => ⟨rfl, rfl, rfl, rfl⟩
theorem ADC_A_mHL : Statement .ADC_A_mHL := fun _ => ⟨rfl, rfl, rfl, rfl⟩
theorem ADC_A_A : Statement .ADC_A_A := fun _ => ⟨rfl, rfl, rfl, rfl⟩
theorem SUB_A_B : Statement .SUB_A_B := fun _ => ⟨rfl, rfl, rfl, rfl⟩
theorem SUB_A_C : Statement .SUB_A_C := fun _ => ⟨rfl, rfl, rfl, rfl⟩
theorem SUB_A_D : Statement .SUB_A_D := fun _ => ⟨rfl, rfl, rfl, rfl⟩
theorem SUB_A_E : Statement .SUB_A_E := fun _ => ⟨rfl, rfl, rfl, rfl⟩
theorem SUB_A_H : Statement .SUB_A_H := fun _ => ⟨rfl, rfl, rfl, rfl⟩
theorem SUB_A_L : Statement .SUB_A_L := fun _ => ⟨rfl, rfl, rfl, rfl⟩
theorem SUB_A_mHL : Statement .SUB_A_mHL := fun _ => ⟨rfl, rfl, rfl, rfl⟩
theorem SUB_A_A : Statement .SUB_A_A := fun _ => ⟨rfl, rfl, rfl, rfl⟩
theorem SBC_A_B : Statement .SBC_A_B := fun _ => ⟨rfl, rfl, rfl, rfl⟩
theorem SBC_A_C : Statement .SBC_A_C := fun _ => ⟨rfl, rfl, rfl, rfl⟩
theorem SBC_A_D : Statement .SBC_A_D := fun _ => ⟨rfl, rfl, rfl, rfl⟩
theorem SBC_A_E : Statement .SBC_A_E := fun _ => ⟨rfl, rfl, rfl, rfl⟩
theorem SBC_A_H : Statement .SBC_A_H := fun _ => ⟨rfl, rfl, rfl, rfl⟩
theorem SBC_A_L : Statement .SBC_A_L := fun _ => ⟨rfl, rfl, rfl, rfl⟩
theorem SBC_A_mHL : Statement .SBC_A_mHL := fun _ => ⟨rfl, rfl, rfl, rfl⟩
theorem SBC_A_A : Statement .SBC_A_A := fun _ => ⟨rfl, rfl, rfl, rfl⟩
theorem AND_A_B : Statement .AND_A_B := fun _ => ⟨rfl, rfl, rfl, rfl⟩
theorem AND_A_C : Statement .AND_A_C := fun _ => ⟨rfl, rfl, rfl, rfl⟩
theorem AND_A_D : Statement .AND_A_D := fun _ => ⟨rfl, rfl, rfl, rfl⟩
theorem AND_A_E : Statement .AND_A_E := fun _ => ⟨rfl, rfl, rfl, rfl⟩
theorem AND_A_H : Statement .AND_A_H := fun _ => ⟨rfl, rfl, rfl, rfl⟩
theorem AND_A_L : Statement .AND_A_L := fun _ => ⟨rfl, rfl, rfl, rfl⟩
theorem AND_A_mHL : Statement .AND_A_mHL := fun _ => ⟨rfl, rfl, rfl, rfl⟩
theorem AND_A_A : Statement .AND_A_A := fun _ => ⟨rfl, rfl, rfl, rfl⟩
theorem XOR_A_B : Statement .XOR_A_B := fun _ => ⟨rfl, rfl, rfl, rfl⟩
theorem XOR_A_C : Statement .XOR_A_C := fun _ => ⟨rfl, rfl, rfl, rfl⟩
theorem XOR_A_D : Statement .XOR_A_D := fun _ => ⟨rfl, rfl, rfl, rfl⟩
theorem XOR_A_E : Statement .XOR_A_E := fun _ => ⟨rfl, rfl, rfl, rfl⟩
theorem XOR_A_H : Statement .XOR_A_H := fun _ => ⟨rfl, rfl, rfl, rfl⟩
theorem XOR_A_L : Statement .XOR_A_L := fun _ => ⟨rfl, rfl, rfl, rfl⟩
theorem XOR_A_mHL : Statement .XOR_A_mHL := fun _ => ⟨rfl, rfl, rfl, rfl⟩
theorem XOR_A_A : Statement .XOR_A_A := fun _ => ⟨rfl, rfl, rfl, rfl⟩
theorem OR_A_B : Statement .OR_A_B := fun _ => ⟨rfl, rfl, rfl, rfl⟩
theorem OR_A_C : Statement .OR_A_C := fun _ => ⟨rfl, rfl, rfl, rfl⟩
theorem OR_A_D : Statement .OR_A_D := fun _ => ⟨rfl, rfl, rfl, rfl⟩
theorem OR_A_E : Statement .OR_A_E := fun _ => ⟨rfl, rfl, rfl, rfl⟩
theorem OR_A_H : Statement .OR_A_H := fun _ => ⟨rfl, rfl, rfl, rfl⟩
theorem OR_A_L : Statement .OR_A_L := fun _ => ⟨rfl, rfl, rfl, rfl⟩
theorem OR_A_mHL : Statement .OR_A_mHL := fun _ => ⟨rfl, rfl, rfl, rfl⟩
theorem OR_A_A : Statement .OR_A_A := fun _ => ⟨rfl, rfl, rfl, rfl⟩
theorem CP_A_B : Statement .CP_A_B := fun _ => ⟨rfl, rfl, rfl, rfl⟩
theorem CP_A_C : Statement .CP_A_C := fun _ => ⟨rfl, rfl, rfl, rfl⟩
theorem CP_A_D : Statement .CP_A_D := fun _ => ⟨rfl, rfl, rfl, rfl⟩
theorem CP_A_E : Statement .CP_A_E := fun _ => ⟨rfl, rfl, rfl, rfl⟩
theorem CP_A_H : Statement .CP_A_H := fun _ => ⟨rfl, rfl, rfl, rfl⟩
theorem CP_A_L : Statement .CP_A_L := fun _ => ⟨rfl, rfl, rfl, rfl⟩
theorem CP_A_mHL : Statement .CP_A_mHL := fun _ => ⟨rfl, rfl, rfl, rfl⟩
theorem CP_A_A : Statement .CP_A_A := fun _ => ⟨rfl, rfl, rfl, rfl⟩
theorem RET_NZ : Statement .RET_NZ := fun _ => ⟨rfl, rfl, rfl, rfl⟩
theorem POP_BC : Statement .POP_BC := fun _ => ⟨rfl, rfl, rfl, rfl⟩
theorem JP_NZ_nn (nn : Word) : Statement (.JP_NZ_nn nn) := fun _ => ⟨rfl, rfl, rfl, rfl⟩
theorem JP_nn (nn : Word) : Statement (.JP_nn nn) := fun _ => ⟨rfl, rfl, rfl, rfl⟩
theorem CALL_NZ_nn (nn : Word) : Statement (.CALL_NZ_nn nn) := fun _ => ⟨rfl, rfl, rfl, rfl⟩
theorem PUSH_BC : Statement .PUSH_BC := fun _ => ⟨rfl, rfl, rfl, rfl⟩
theorem ADD_A_n (n : Byte) : Statement (.ADD_A_n n) := fun _ => ⟨rfl, rfl, rfl, rfl⟩
theorem RST_00H : Statement .RST_00H := fun _ => ⟨rfl, rfl, rfl, rfl⟩
theorem RET_Z : Statement .RET_Z := fun _ => ⟨rfl, rfl, rfl, rfl⟩
theorem RET : Statement .RET := fun _ => ⟨rfl, rfl, rfl, rfl⟩
theorem JP_Z_nn (nn : Word) : Statement (.JP_Z_nn nn) := fun _ => ⟨rfl, rfl, rfl, rfl⟩
theorem PREFIX_CB : Statement .PREFIX_CB := fun h => absurd h (by decide)
theorem CALL_Z_nn (nn : Word) : Statement (.CALL_Z_nn nn) := fun _ => ⟨rfl, rfl, rfl, rfl⟩
theorem CALL_nn (nn : Word) : Statement (.CALL_nn nn) := fun _ => ⟨rfl, rfl, rfl, rfl⟩
theorem ADC_A_n (n : Byte) : Statement (.ADC_A_n n) := fun _ => ⟨rfl, rfl, rfl, rfl⟩
theorem RST_08H : Statement .RST_08H := fun _ => ⟨rfl, rfl, rfl, rfl⟩
theorem RET_NC : Statement .RET_NC := fun _ => ⟨rfl, rfl, rfl, rfl⟩
theorem POP_DE : Statement .POP_DE := fun _ => ⟨rfl, rfl, rfl, rfl⟩
theorem JP_NC_nn (nn : Word) : Statement (.JP_NC_nn nn) := fun _ => ⟨rfl, rfl, rfl, rfl⟩
theorem illegal_0xD3 : Statement .illegal_0xD3 := fun h => absurd h (by decide)
theorem CALL_NC_nn (nn : Word) : Statement (.CALL_NC_nn nn) := fun _ => ⟨rfl, rfl, rfl, rfl⟩
theorem PUSH_DE : Statement .PUSH_DE := fun _ => ⟨rfl, rfl, rfl, rfl⟩
theorem SUB_A_n (n : Byte) : Statement (.SUB_A_n n) := fun _ => ⟨rfl, rfl, rfl, rfl⟩
theorem RST_10H : Statement .RST_10H := fun _ => ⟨rfl, rfl, rfl, rfl⟩
theorem RET_C : Statement .RET_C := fun _ => ⟨rfl, rfl, rfl, rfl⟩
theorem RETI : Statement .RETI := fun _ => ⟨rfl, rfl, rfl, rfl⟩
theorem JP_C_nn (nn : Word) : Statement (.JP_C_nn nn) := fun _ => ⟨rfl, rfl, rfl, rfl⟩
theorem illegal_0xDB : Statement .illegal_0xDB := fun h => absurd h (by decide)
theorem CALL_C_nn (nn : Word) : Statement (.CALL_C_nn nn) := fun _ => ⟨rfl, rfl, rfl, rfl⟩
theorem illegal_0xDD : Statement .illegal_0xDD := fun h => absurd h (by decide)
theorem SBC_A_n (n : Byte) : Statement (.SBC_A_n n) := fun _ => ⟨rfl, rfl, rfl, rfl⟩
theorem RST_18H : Statement .RST_18H := fun _ => ⟨rfl, rfl, rfl, rfl⟩
theorem LDH_mn_A (n : Byte) : Statement (.LDH_mn_A n) := fun _ => ⟨rfl, rfl, rfl, rfl⟩
theorem POP_HL : Statement .POP_HL := fun _ => ⟨rfl, rfl, rfl, rfl⟩
theorem LD_mC_A : Statement .LD_mC_A := fun _ => ⟨rfl, rfl, rfl, rfl⟩
theorem illegal_0xE3 : Statement .illegal_0xE3 := fun h => absurd h (by decide)
theorem illegal_0xE4 : Statement .illegal_0xE4 := fun h => absurd h (by decide)
theorem PUSH_HL : Statement .PUSH_HL := fun _ => ⟨rfl, rfl, rfl, rfl⟩
theorem AND_A_n (n : Byte) : Statement (.AND_A_n n) := fun _ => ⟨rfl, rfl, rfl, rfl⟩
theorem RST_20H : Statement .RST_20H := fun _ => ⟨rfl, rfl, rfl, rfl⟩
theorem ADD_SP_e (e : Byte) : Statement (.ADD_SP_e e) := fun _ => ⟨rfl, rfl, rfl, rfl⟩
theorem JP_HL : Statement .JP_HL := fun _ => ⟨rfl, rfl, rfl, rfl⟩
theorem LD_mnn_A (nn : Word) : Statement (.LD_mnn_A nn) := fun _ => ⟨rfl, rfl, rfl, rfl⟩
theorem illegal_0xEB : Statement .illegal_0xEB := fun h => absurd h (by decide)
theorem illegal_0xEC : Statement .illegal_0xEC := fun h => absurd h (by decide)
theorem illegal_0xED : Statement .illegal_0xED := fun h => absurd h (by decide)
theorem XOR_A_n (n : Byte) : Statement (.XOR_A_n n) := fun _ => ⟨rfl, rfl, rfl, rfl⟩
theorem RST_28H : Statement .RST_28H := fun _ => ⟨rfl, rfl, rfl, rfl⟩
theorem LDH_A_mn (n : Byte) : Statement (.LDH_A_mn n) := fun _ => ⟨rfl, rfl, rfl, rfl⟩
theorem POP_AF : Statement .POP_AF := fun _ => ⟨rfl, rfl, rfl, rfl⟩
theorem LD_A_mC : Statement .LD_A_mC := fun _ => ⟨rfl, rfl, rfl, rfl⟩
theorem DI : Statement .DI := fun _ => ⟨rfl, rfl, rfl, rfl⟩
theorem illegal_0xF4 : Statement .illegal_0xF4 := fun h => absurd h (by decide)
theorem PUSH_AF : Statement .PUSH_AF := fun _ => ⟨rfl, rfl, rfl, rfl⟩
theorem OR_A_n (n : Byte) : Statement (.OR_A_n n) := fun _ => ⟨rfl, rfl, rfl, rfl⟩
theorem RST_30H : Statement .RST_30H := fun _ => ⟨rfl, rfl, rfl, rfl⟩
theorem LD_HL_SP_e (e : Byte) : Statement (.LD_HL_SP_e e) := fun _ => ⟨rfl, rfl, rfl, rfl⟩
theorem LD_SP_HL : Statement .LD_SP_HL := fun _ => ⟨rfl, rfl, rfl, rfl⟩
theorem LD_A_mnn (nn : Word) : Statement (.LD_A_mnn nn) := fun _ => ⟨rfl, rfl, rfl, rfl⟩
theorem EI : Statement .EI := fun _ => ⟨rfl, rfl, rfl, rfl⟩
theorem illegal_0xFC : Statement .illegal_0xFC := fun h => absurd h (by decide)
theorem illegal_0xFD : Statement .illegal_0xFD := fun h => absurd h (by decide)
theorem CP_A_n (n : Byte) : Statement (.CP_A_n n) := fun _ => ⟨rfl, rfl, rfl, rfl⟩
theorem RST_38H : Statement .RST_38H := fun _ => ⟨rfl, rfl, rfl, rfl⟩
theorem RLC_B : Statement .RLC_B := fun _ => ⟨rfl, rfl, rfl, rfl⟩
theorem RLC_C : Statement .RLC_C := fun _ => ⟨rfl, rfl, rfl, rfl⟩
theorem RLC_D : Statement .RLC_D := fun _ => ⟨rfl, rfl, rfl, rfl⟩
theorem RLC_E : Statement .RLC_E := fun _ => ⟨rfl, rfl, rfl, rfl⟩
theorem RLC_H : Statement .RLC_H := fun _ => ⟨rfl, rfl, rfl, rfl⟩
theorem RLC_L : Statement .RLC_L := fun _ => ⟨rfl, rfl, rfl, rfl⟩
theorem RLC_mHL : Statement .RLC_mHL := fun _ => ⟨rfl, rfl, rfl, rfl⟩
theorem RLC_A : Statement .RLC_A := fun _ => ⟨rfl, rfl, rfl, rfl⟩
theorem RRC_B : Statement .RRC_B := fun _ => ⟨rfl, rfl, rfl, rfl⟩
theorem RRC_C : Statement .RRC_C := fun _ => ⟨rfl, rfl, rfl, rfl⟩
theorem RRC_D : Statement .RRC_D := fun _ => ⟨rfl, rfl, rfl, rfl⟩
theorem RRC_E : Statement .RRC_E := fun _ => ⟨rfl, rfl, rfl, rfl⟩
theorem RRC_H : Statement .RRC_H := fun _ => ⟨rfl, rfl, rfl, rfl⟩
theorem RRC_L : Statement .RRC_L := fun _ => ⟨rfl, rfl, rfl, rfl⟩
theorem RRC_mHL : Statement .RRC_mHL := fun _ => ⟨rfl, rfl, rfl, rfl⟩
theorem RRC_A : Statement .RRC_A := fun _ => ⟨rfl, rfl, rfl, rfl⟩
theorem RL_B : Statement .RL_B := fun _ => ⟨rfl, rfl, rfl, rfl⟩
theorem RL_C : Statement .RL_C := fun _ => ⟨rfl, rfl, rfl, rfl⟩
theorem RL_D : Statement .RL_D := fun _ => ⟨rfl, rfl, rfl, rfl⟩
theorem RL_E : Statement .RL_E := fun _ => ⟨rfl, rfl, rfl, rfl⟩
theorem RL_H : Statement .RL_H := fun _ => ⟨rfl, rfl, rfl, rfl⟩
theorem RL_L : Statement .RL_L := fun _ => ⟨rfl, rfl, rfl, rfl⟩
theorem RL_mHL : Statement .RL_mHL := fun _ => ⟨rfl, rfl, rfl, rfl⟩
theorem RL_A : Statement .RL_A := fun _ => ⟨rfl, rfl, rfl, rfl⟩
theorem RR_B : Statement .RR_B := fun _ => ⟨rfl, rfl, rfl, rfl⟩
theorem RR_C : Statement .RR_C := fun _ => ⟨rfl, rfl, rfl, rfl⟩
theorem RR_D : Statement .RR_D := fun _ => ⟨rfl, rfl, rfl, rfl⟩
theorem RR_E : Statement .RR_E := fun _ => ⟨rfl, rfl, rfl, rfl⟩
theorem RR_H : Statement .RR_H := fun _ => ⟨rfl, rfl, rfl, rfl⟩
theorem RR_L : Statement .RR_L := fun _ => ⟨rfl, rfl, rfl, rfl⟩
theorem RR_mHL : Statement .RR_mHL := fun _ => ⟨rfl, rfl, rfl, rfl⟩
theorem RR_A : Statement .RR_A := fun _ => ⟨rfl, rfl, rfl, rfl⟩
theorem SLA_B : Statement .SLA_B := fun _ => ⟨rfl, rfl, rfl, rfl⟩
theorem SLA_C : Statement .SLA_C := fun _ => ⟨rfl, rfl, rfl, rfl⟩
theorem SLA_D : Statement .SLA_D := fun _ => ⟨rfl, rfl, rfl, rfl⟩
theorem SLA_E : Statement .SLA_E := fun _ => ⟨rfl, rfl, rfl, rfl⟩
theorem SLA_H : Statement .SLA_H := fun _ => ⟨rfl, rfl, rfl, rfl⟩
theorem SLA_L : Statement .SLA_L := fun _ => ⟨rfl, rfl, rfl, rfl⟩
theorem SLA_mHL : Statement .SLA_mHL := fun _ => ⟨rfl, rfl, rfl, rfl⟩
theorem SLA_A : Statement .SLA_A := fun _ => ⟨rfl, rfl, rfl, rfl⟩
theorem SRA_B : Statement .SRA_B := fun _ => ⟨rfl, rfl, rfl, rfl⟩
theorem SRA_C : Statement .SRA_C := fun _ => ⟨rfl, rfl, rfl, rfl⟩
theorem SRA_D : Statement .SRA_D := fun _ => ⟨rfl, rfl, rfl, rfl⟩
theorem SRA_E : Statement .SRA_E := fun _ => ⟨rfl, rfl, rfl, rfl⟩
theorem SRA_H : Statement .SRA_H := fun _ => ⟨rfl, rfl, rfl, rfl⟩
theorem SRA_L : Statement .SRA_L := fun _ => ⟨rfl, rfl, rfl, rfl⟩
theorem SRA_mHL : Statement .SRA_mHL := fun _ => ⟨rfl, rfl, rfl, rfl⟩
theorem SRA_A : Statement .SRA_A := fun _ => ⟨rfl, rfl, rfl, rfl⟩
theorem SWAP_B : Statement .SWAP_B := fun _ => ⟨rfl, rfl, rfl, rfl⟩
theorem SWAP_C : Statement .SWAP_C := fun _ => ⟨rfl, rfl, rfl, rfl⟩
theorem SWAP_D : Statement .SWAP_D := fun _ => ⟨rfl, rfl, rfl, rfl⟩
theorem SWAP_E : Statement .SWAP_E := fun _ => ⟨rfl, rfl, rfl, rfl⟩
theorem SWAP_H : Statement .SWAP_H := fun _ => ⟨rfl, rfl, rfl, rfl⟩
theorem SWAP_L : Statement .SWAP_L := fun _ => ⟨rfl, rfl, rfl, rfl⟩
theorem SWAP_mHL : Statement .SWAP_mHL := fun _ => ⟨rfl, rfl, rfl, rfl⟩
theorem SWAP_A : Statement .SWAP_A := fun _ => ⟨rfl, rfl, rfl, rfl⟩
theorem SRL_B : Statement .SRL_B := fun _ => ⟨rfl, rfl, rfl, rfl⟩
theorem SRL_C : Statement .SRL_C := fun _ => ⟨rfl, rfl, rfl, rfl⟩
theorem SRL_D : Statement .SRL_D := fun _ => ⟨rfl, rfl, rfl, rfl⟩
theorem SRL_E : Statement .SRL_E := fun _ => ⟨rfl, rfl, rfl, rfl⟩
theorem SRL_H : Statement .SRL_H := fun _ => ⟨rfl, rfl, rfl, rfl⟩
theorem SRL_L : Statement .SRL_L := fun _ => ⟨rfl, rfl, rfl, rfl⟩
theorem SRL_mHL : Statement .SRL_mHL := fun _ => ⟨rfl, rfl, rfl, rfl⟩
theorem SRL_A : Statement .SRL_A := fun _ => ⟨rfl, rfl, rfl, rfl⟩
theorem BIT_0_B : Statement .BIT_0_B := fun _ => ⟨rfl, rfl, rfl, rfl⟩
theorem BIT_0_C : Statement .BIT_0_C := fun _ => ⟨rfl, rfl, rfl, rfl⟩
theorem BIT_0_D : Statement .BIT_0_D := fun _ => ⟨rfl, rfl, rfl, rfl⟩
theorem BIT_0_E : Statement .BIT_0_E := fun _ => ⟨rfl, rfl, rfl, rfl⟩
theorem BIT_0_H : Statement .BIT_0_H := fun _ => ⟨rfl, rfl, rfl, rfl⟩
theorem BIT_0_L : Statement .BIT_0_L := fun _ => ⟨rfl, rfl, rfl, rfl⟩
theorem BIT_0_mHL : Statement .BIT_0_mHL := fun _ => ⟨rfl, rfl, rfl, rfl⟩
theorem BIT_0_A : Statement .BIT_0_A := fun _ => ⟨rfl, rfl, rfl, rfl⟩
theorem BIT_1_B : Statement .BIT_1_B := fun _ => ⟨rfl, rfl, rfl, rfl⟩
theorem BIT_1_C : Statement .BIT_1_C := fun _ => ⟨rfl, rfl, rfl, rfl⟩
theorem BIT_1_D : Statement .BIT_1_D := fun _ => ⟨rfl, rfl, rfl, rfl⟩
theorem BIT_1_E : Statement .BIT_1_E := fun _ => ⟨rfl, rfl, rfl, rfl⟩
theorem BIT_1_H : Statement .BIT_1_H := fun _ => ⟨rfl, rfl, rfl, rfl⟩
theorem BIT_1_L : Statement .BIT_1_L := fun _ => ⟨rfl, rfl, rfl, rfl⟩
theorem BIT_1_mHL : Statement .BIT_1_mHL := fun _ => ⟨rfl, rfl, rfl, rfl⟩
theorem BIT_1_A : Statement .BIT_1_A := fun _ => ⟨rfl, rfl, rfl, rfl⟩
theorem BIT_2_B : Statement .BIT_2_B := fun _ => ⟨rfl, rfl, rfl, rfl⟩
theorem BIT_2_C : Statement .BIT_2_C := fun _ => ⟨rfl, rfl, rfl, rfl⟩
theorem BIT_2_D : Statement .BIT_2_D := fun _ => ⟨rfl, rfl, rfl, rfl⟩
theorem BIT_2_E : Statement .BIT_2_E := fun _ => ⟨rfl, rfl, rfl, rfl⟩
theorem BIT_2_H : Statement .BIT_2_H := fun _ => ⟨rfl, rfl, rfl, rfl⟩
theorem BIT_2_L : Statement .BIT_2_L := fun _ => ⟨rfl, rfl, rfl, rfl⟩
theorem BIT_2_mHL : Statement .BIT_2_mHL := fun _ => ⟨rfl, rfl, rfl, rfl⟩
theorem BIT_2_A : Statement .BIT_2_A := fun _ => ⟨rfl, rfl, rfl, rfl⟩
theorem BIT_3_B : Statement .BIT_3_B := fun _ => ⟨rfl, rfl, rfl, rfl⟩
theorem BIT_3_C : Statement .BIT_3_C := fun _ => ⟨rfl, rfl, rfl, rfl⟩
theorem BIT_3_D : Statement .BIT_3_D := fun _ => ⟨rfl, rfl, rfl, rfl⟩
theorem BIT_3_E : Statement .BIT_3_E := fun _ => ⟨rfl, rfl, rfl, rfl⟩
theorem BIT_3_H : Statement .BIT_3_H := fun _ => ⟨rfl, rfl, rfl, rfl⟩
theorem BIT_3_L : Statement .BIT_3_L := fun _ => ⟨rfl, rfl, rfl, rfl⟩
theorem BIT_3_mHL : Statement .BIT_3_mHL := fun _ => ⟨rfl, rfl, rfl, rfl⟩
theorem BIT_3_A : Statement .BIT_3_A := fun _ => ⟨rfl, rfl, rfl, rfl⟩
theorem BIT_4_B : Statement .BIT_4_B := fun _ => ⟨rfl, rfl, rfl, rfl⟩
theorem BIT_4_C : Statement .BIT_4_C := fun _ => ⟨rfl, rfl, rfl, rfl⟩
theorem BIT_4_D : Statement .BIT_4_D := fun _ => ⟨rfl, rfl, rfl, rfl⟩
theorem BIT_4_E : Statement .BIT_4_E := fun _ => ⟨rfl, rfl, rfl, rfl⟩
theorem BIT_4_H : Statement .BIT_4_H := fun _ => ⟨rfl, rfl, rfl, rfl⟩
theorem BIT_4_L : Statement .BIT_4_L := fun _ => ⟨rfl, rfl, rfl, rfl⟩
theorem BIT_4_mHL : Statement .BIT_4_mHL := fun _ => ⟨rfl, rfl, rfl, rfl⟩
theorem BIT_4_A : Statement .BIT_4_A := fun _ => ⟨rfl, rfl, rfl, rfl⟩
theorem BIT_5_B : Statement .BIT_5_B := fun _ => ⟨rfl, rfl, rfl, rfl⟩
theorem BIT_5_C : Statement .BIT_5_C := fun _ => ⟨rfl, rfl, rfl, rfl⟩
theorem BIT_5_D : Statement .BIT_5_D := fun _ => ⟨rfl, rfl, rfl, rfl⟩
theorem BIT_5_E : Statement .BIT_5_E := fun _ => ⟨rfl, rfl, rfl, rfl⟩
theorem BIT_5_H : Statement .BIT_5_H := fun _ => ⟨rfl, rfl, rfl, rfl⟩
theorem BIT_5_L : Statement .BIT_5_L := fun _ => ⟨rfl, rfl, rfl, rfl⟩
theorem BIT_5_mHL : Statement .BIT_5_mHL := fun _ => ⟨rfl, rfl, rfl, rfl⟩
theorem BIT_5_A : Statement .BIT_5_A := fun _ => ⟨rfl, rfl, rfl, rfl⟩
theorem BIT_6_B : Statement .BIT_6_B := fun _ => ⟨rfl, rfl, rfl, rfl⟩
theorem BIT_6_C : Statement .BIT_6_C := fun _ => ⟨rfl, rfl, rfl, rfl⟩
theorem BIT_6_D : Statement .BIT_6_D := fun _ => ⟨rfl, rfl, rfl, rfl⟩
theorem BIT_6_E : Statement .BIT_6_E := fun _ => ⟨rfl, rfl, rfl, rfl⟩
theorem BIT_6_H : Statement .BIT_6_H := fun _ => ⟨rfl, rfl, rfl, rfl⟩
theorem BIT_6_L : Statement .BIT_6_L := fun _ => ⟨rfl, rfl, rfl, rfl⟩
theorem BIT_6_mHL : Statement .BIT_6_mHL := fun _ => ⟨rfl, rfl, rfl, rfl⟩
theorem BIT_6_A : Statement .BIT_6_A := fun _ => ⟨rfl, rfl, rfl, rfl⟩
theorem BIT_7_B : Statement .BIT_7_B := fun _ => ⟨rfl, rfl, rfl, rfl⟩
theorem BIT_7_C : Statement .BIT_7_C := fun _ => ⟨rfl, rfl, rfl, rfl⟩
theorem BIT_7_D : Statement .BIT_7_D := fun _ => ⟨rfl, rfl, rfl, rfl⟩
theorem BIT_7_E : Statement .BIT_7_E := fun _ => ⟨rfl, rfl, rfl, rfl⟩
theorem BIT_7_H : Statement .BIT_7_H := fun _ => ⟨rfl, rfl, rfl, rfl⟩
theorem BIT_7_L : Statement .BIT_7_L := fun _ => ⟨rfl, rfl, rfl, rfl⟩
theorem BIT_7_mHL : Statement .BIT_7_mHL := fun _ => ⟨rfl, rfl, rfl, rfl⟩
theorem BIT_7_A : Statement .BIT_7_A := fun _ => ⟨rfl, rfl, rfl, rfl⟩
theorem RES_0_B : Statement .RES_0_B := fun _ => ⟨rfl, rfl, rfl, rfl⟩
theorem RES_0_C : Statement .RES_0_C := fun _ => ⟨rfl, rfl, rfl, rfl⟩
theorem RES_0_D : Statement .RES_0_D := fun _ => ⟨rfl, rfl, rfl, rfl⟩
theorem RES_0_E : Statement .RES_0_E := fun _ => ⟨rfl, rfl, rfl, rfl⟩
theorem RES_0_H : Statement .RES_0_H := fun _ => ⟨rfl, rfl, rfl, rfl⟩
theorem RES_0_L : Statement .RES_0_L := fun _ => ⟨rfl, rfl, rfl, rfl⟩
theorem RES_0_mHL : Statement .RES_0_mHL := fun _ => ⟨rfl, rfl, rfl, rfl⟩
theorem RES_0_A : Statement .RES_0_A := fun _ => ⟨rfl, rfl, rfl, rfl⟩
theorem RES_1_B : Statement .RES_1_B := fun _ => ⟨rfl, rfl, rfl, rfl⟩
theorem RES_1_C : Statement .RES_1_C := fun _ => ⟨rfl, rfl, rfl, rfl⟩
theorem RES_1_D : Statement .RES_1_D := fun _ => ⟨rfl, rfl, rfl, rfl⟩
theorem RES_1_E : Statement .RES_1_E := fun _ => ⟨rfl, rfl, rfl, rfl⟩
theorem RES_1_H : Statement .RES_1_H := fun _ => ⟨rfl, rfl, rfl, rfl⟩
theorem RES_1_L : Statement .RES_1_L := fun _ => ⟨rfl, rfl, rfl, rfl⟩
theorem RES_1_mHL : Statement .RES_1_mHL := fun _ => ⟨rfl, rfl, rfl, rfl⟩
theorem RES_1_A : Statement .RES_1_A := fun _ => ⟨rfl, rfl, rfl, rfl⟩
theorem RES_2_B : Statement .RES_2_B := fun _ => ⟨rfl, rfl, rfl, rfl⟩
theorem RES_2_C : Statement .RES_2_C := fun _ => ⟨rfl, rfl, rfl, rfl⟩
theorem RES_2_D : Statement .RES_2_D := fun _ => ⟨rfl, rfl, rfl, rfl⟩
theorem RES_2_E : Statement .RES_2_E := fun _ => ⟨rfl, rfl, rfl, rfl⟩
theorem RES_2_H : Statement .RES_2_H := fun _ => ⟨rfl, rfl, rfl, rfl⟩
theorem RES_2_L : Statement .RES_2_L := fun _ => ⟨rfl, rfl, rfl, rfl⟩
theorem RES_2_mHL : Statement .RES_2_mHL := fun _ => ⟨rfl, rfl, rfl, rfl⟩
theorem RES_2_A : Statement .RES_2_A := fun _ => ⟨rfl, rfl, rfl, rfl⟩
theorem RES_3_B : Statement .RES_3_B := fun _ => ⟨rfl, rfl, rfl, rfl⟩
theorem RES_3_C : Statement .RES_3_C := fun _ => ⟨rfl, rfl, rfl, rfl⟩
theorem RES_3_D : Statement .RES_3_D := fun _ => ⟨rfl, rfl, rfl, rfl⟩
theorem RES_3_E : Statement .RES_3_E := fun _ => ⟨rfl, rfl, rfl, rfl⟩
theorem RES_3_H : Statement .RES_3_H := fun _ => ⟨rfl, rfl, rfl, rfl⟩
theorem RES_3_L : Statement .RES_3_L := fun _ => ⟨rfl, rfl, rfl, rfl⟩
theorem RES_3_mHL : Statement .RES_3_mHL := fun _ => ⟨rfl, rfl, rfl, rfl⟩
theorem RES_3_A : Statement .RES_3_A := fun _ => ⟨rfl, rfl, rfl, rfl⟩
theorem RES_4_B : Statement .RES_4_B := fun _ => ⟨rfl, rfl, rfl, rfl⟩
theorem RES_4_C : Statement .RES_4_C := fun _ => ⟨rfl, rfl, rfl, rfl⟩
theorem RES_4_D : Statement .RES_4_D := fun _ => ⟨rfl, rfl, rfl, rfl⟩
theorem RES_4_E : Statement .RES_4_E := fun _ => ⟨rfl, rfl, rfl, rfl⟩
theorem RES_4_H : Statement .RES_4_H := fun _ => ⟨rfl, rfl, rfl, rfl⟩
theorem RES_4_L : Statement .RES_4_L := fun _ => ⟨rfl, rfl, rfl, rfl⟩
theorem RES_4_mHL : Statement .RES_4_mHL := fun _ => ⟨rfl, rfl, rfl, rfl⟩
theorem RES_4_A : Statement .RES_4_A := fun _ => ⟨rfl, rfl, rfl, rfl⟩
theorem RES_5_B : Statement .RES_5_B := fun _ => ⟨rfl, rfl, rfl, rfl⟩
theorem RES_5_C : Statement .RES_5_C := fun _ => ⟨rfl, rfl, rfl, rfl⟩
theorem RES_5_D : Statement .RES_5_D := fun _ => ⟨rfl, rfl, rfl, rfl⟩
theorem RES_5_E : Statement .RES_5_E := fun _ => ⟨rfl, rfl, rfl, rfl⟩
theorem RES_5_H : Statement .RES_5_H := fun _ => ⟨rfl, rfl, rfl, rfl⟩
theorem RES_5_L : Statement .RES_5_L := fun _ => ⟨rfl, rfl, rfl, rfl⟩
theorem RES_5_mHL : Statement .RES_5_mHL := fun _ => ⟨rfl, rfl, rfl, rfl⟩
theorem RES_5_A : Statement .RES_5_A := fun _ => ⟨rfl, rfl, rfl, rfl⟩
theorem RES_6_B : Statement .RES_6_B := fun _ => ⟨rfl, rfl, rfl, rfl⟩
theorem RES_6_C : Statement .RES_6_C := fun _ => ⟨rfl, rfl, rfl, rfl⟩
theorem RES_6_D : Statement .RES_6_D := fun _ => ⟨rfl, rfl, rfl, rfl⟩
theorem RES_6_E : Statement .RES_6_E := fun _ => ⟨rfl, rfl, rfl, rfl⟩
theorem RES_6_H : Statement .RES_6_H := fun _ => ⟨rfl, rfl, rfl, rfl⟩
theorem RES_6_L : Statement .RES_6_L := fun _ => ⟨rfl, rfl, rfl, rfl⟩
theorem RES_6_mHL : Statement .RES_6_mHL := fun _ => ⟨rfl, rfl, rfl, rfl⟩
theorem RES_6_A : Statement .RES_6_A := fun _ => ⟨rfl, rfl, rfl, rfl⟩
theorem RES_7_B : Statement .RES_7_B := fun _ => ⟨rfl, rfl, rfl, rfl⟩
theorem RES_7_C : Statement .RES_7_C := fun _ => ⟨rfl, rfl, rfl, rfl⟩
theorem RES_7_D : Statement .RES_7_D := fun _ => ⟨rfl, rfl, rfl, rfl⟩
theorem RES_7_E : Statement .RES_7_E := fun _ => ⟨rfl, rfl, rfl, rfl⟩
theorem RES_7_H : Statement .RES_7_H := fun _ => ⟨rfl, rfl, rfl, rfl⟩
theorem RES_7_L : Statement .RES_7_L := fun _ => ⟨rfl, rfl, rfl, rfl⟩
theorem RES_7_mHL : Statement .RES_7_mHL := fun _ => ⟨rfl, rfl, rfl, rfl⟩
theorem RES_7_A : Statement .RES_7_A := fun _ => ⟨rfl, rfl, rfl, rfl⟩
theorem SET_0_B : Statement .SET_0_B := fun _ => ⟨rfl, rfl, rfl, rfl⟩
theorem SET_0_C : Statement .SET_0_C := fun _ => ⟨rfl, rfl, rfl, rfl⟩
theorem SET_0_D : Statement .SET_0_D := fun _ => ⟨rfl, rfl, rfl, rfl⟩
theorem SET_0_E : Statement .SET_0_E := fun _ => ⟨rfl, rfl, rfl, rfl⟩
theorem SET_0_H : Statement .SET_0_H := fun _ => ⟨rfl, rfl, rfl, rfl⟩
theorem SET_0_L : Statement .SET_0_L := fun _ => ⟨rfl, rfl, rfl, rfl⟩
theorem SET_0_mHL : Statement .SET_0_mHL := fun _ => ⟨rfl, rfl, rfl, rfl⟩
theorem SET_0_A : Statement .SET_0_A := fun _ => ⟨rfl, rfl, rfl, rfl⟩
theorem SET_1_B : Statement .SET_1_B := fun _ => ⟨rfl, rfl, rfl, rfl⟩
theorem SET_1_C : Statement .SET_1_C := fun _ => ⟨rfl, rfl, rfl, rfl⟩
theorem SET_1_D : Statement .SET_1_D := fun _ => ⟨rfl, rfl, rfl, rfl⟩
theorem SET_1_E : Statement .SET_1_E := fun _ => ⟨rfl, rfl, rfl, rfl⟩
theorem SET_1_H : Statement .SET_1_H := fun _ => ⟨rfl, rfl, rfl, rfl⟩
theorem SET_1_L : Statement .SET_1_L := fun _ => ⟨rfl, rfl, rfl, rfl⟩
theorem SET_1_mHL : Statement .SET_1_mHL := fun _ => ⟨rfl, rfl, rfl, rfl⟩
theorem SET_1_A : Statement .SET_1_A := fun _ => ⟨rfl, rfl, rfl, rfl⟩
theorem SET_2_B : Statement .SET_2_B := fun _ => ⟨rfl, rfl, rfl, rfl⟩
theorem SET_2_C : Statement .SET_2_C := fun _ => ⟨rfl, rfl, rfl, rfl⟩
theorem SET_2_D : Statement .SET_2_D := fun _ => ⟨rfl, rfl, rfl, rfl⟩
theorem SET_2_E : Statement .SET_2_E := fun _ => ⟨rfl, rfl, rfl, rfl⟩
theorem SET_2_H : Statement .SET_2_H := fun _ => ⟨rfl, rfl, rfl, rfl⟩
theorem SET_2_L : Statement .SET_2_L := fun _ => ⟨rfl, rfl, rfl, rfl⟩
theorem SET_2_mHL : Statement .SET_2_mHL := fun _ => ⟨rfl, rfl, rfl, rfl⟩
theorem SET_2_A : Statement .SET_2_A := fun _ => ⟨rfl, rfl, rfl, rfl⟩
theorem SET_3_B : Statement .SET_3_B := fun _ => ⟨rfl, rfl, rfl, rfl⟩
theorem SET_3_C : Statement .SET_3_C := fun _ => ⟨rfl, rfl, rfl, rfl⟩
theorem SET_3_D : Statement .SET_3_D := fun _ => ⟨rfl, rfl, rfl, rfl⟩
theorem SET_3_E : Statement .SET_3_E := fun _ => ⟨rfl, rfl, rfl, rfl⟩
theorem SET_3_H : Statement .SET_3_H := fun _ => ⟨rfl, rfl, rfl, rfl⟩
theorem SET_3_L : Statement .SET_3_L := fun _ => ⟨rfl, rfl, rfl, rfl⟩
theorem SET_3_mHL : Statement .SET_3_mHL := fun _ => ⟨rfl, rfl, rfl, rfl⟩
theorem SET_3_A : Statement .SET_3_A := fun _ => ⟨rfl, rfl, rfl, rfl⟩
theorem SET_4_B : Statement .SET_4_B := fun _ => ⟨rfl, rfl, rfl, rfl⟩
theorem SET_4_C : Statement .SET_4_C := fun _ => ⟨rfl, rfl, rfl, rfl⟩
theorem SET_4_D : Statement .SET_4_D := fun _ => ⟨rfl, rfl, rfl, rfl⟩
theorem SET_4_E : Statement .SET_4_E := fun _ => ⟨rfl, rfl, rfl, rfl⟩
theorem SET_4_H : Statement .SET_4_H := fun _ => ⟨rfl, rfl, rfl, rfl⟩
theorem SET_4_L : Statement .SET_4_L := fun _ => ⟨rfl, rfl, rfl, rfl⟩
theorem SET_4_mHL : Statement .SET_4_mHL := fun _ => ⟨rfl, rfl, rfl, rfl⟩
theorem SET_4_A : Statement .SET_4_A := fun _ => ⟨rfl, rfl, rfl, rfl⟩
theorem SET_5_B : Statement .SET_5_B := fun _ => ⟨rfl, rfl, rfl, rfl⟩
theorem SET_5_C : Statement .SET_5_C := fun _ => ⟨rfl, rfl, rfl, rfl⟩
theorem SET_5_D : Statement .SET_5_D := fun _ => ⟨rfl, rfl, rfl, rfl⟩
theorem SET_5_E : Statement .SET_5_E := fun _ => ⟨rfl, rfl, rfl, rfl⟩
theorem SET_5_H : Statement .SET_5_H := fun _ => ⟨rfl, rfl, rfl, rfl⟩
theorem SET_5_L : Statement .SET_5_L := fun _ => ⟨rfl, rfl, rfl, rfl⟩
theorem SET_5_mHL : Statement .SET_5_mHL := fun _ => ⟨rfl, rfl, rfl, rfl⟩
theorem SET_5_A : Statement .SET_5_A := fun _ => ⟨rfl, rfl, rfl, rfl⟩
theorem SET_6_B : Statement .SET_6_B := fun _ => ⟨rfl, rfl, rfl, rfl⟩
theorem SET_6_C : Statement .SET_6_C := fun _ => ⟨rfl, rfl, rfl, rfl⟩
theorem SET_6_D : Statement .SET_6_D := fun _ => ⟨rfl, rfl, rfl, rfl⟩
theorem SET_6_E : Statement .SET_6_E := fun _ => ⟨rfl, rfl, rfl, rfl⟩
theorem SET_6_H : Statement .SET_6_H := fun _ => ⟨rfl, rfl, rfl, rfl⟩
theorem SET_6_L : Statement .SET_6_L := fun _ => ⟨rfl, rfl, rfl, rfl⟩
theorem SET_6_mHL : Statement .SET_6_mHL := fun _ => ⟨rfl, rfl, rfl, rfl⟩
theorem SET_6_A : Statement .SET_6_A := fun _ => ⟨rfl, rfl, rfl, rfl⟩
theorem SET_7_B : Statement .SET_7_B := fun _ => ⟨rfl, rfl, rfl, rfl⟩
theorem SET_7_C : Statement .SET_7_C := fun _ => ⟨rfl, rfl, rfl, rfl⟩
theorem SET_7_D : Statement .SET_7_D := fun _ => ⟨rfl, rfl, rfl, rfl⟩
theorem SET_7_E : Statement .SET_7_E := fun _ => ⟨rfl, rfl, rfl, rfl⟩
theorem SET_7_H : Statement .SET_7_H := fun _ => ⟨rfl, rfl, rfl, rfl⟩
theorem SET_7_L : Statement .SET_7_L := fun _ => ⟨rfl, rfl, rfl, rfl⟩
theorem SET_7_mHL : Statement .SET_7_mHL := fun _ => ⟨rfl, rfl, rfl, rfl⟩
theorem SET_7_A : Statement .SET_7_A := fun _ => ⟨rfl, rfl, rfl, rfl⟩

end Cycles

end Laws

end Sys2Proof
end

