-- ==== Sys2Proof/Laws/Store.lean ====
section
/-! SUPPORT. What a write stores is what a read gives back (R126, R130, R132, R215, R233), now and while time passes. -/

namespace Sys2Proof.Machine

/-- The high nibble of an MBC2 cell reads as ones, whatever was written there (R233). -/
theorem highNibble_or (v : Byte) : 0xF0 ||| (v &&& 0x0F) = 0xF0 ||| v := by
  revert v; decide

/-- A write to an MBC2 cell or an external byte is read back. -/
theorem readRam_writeRam_same {c : Cart} {now o : Nat} (v : Byte) :
    (∀ i, c.ramTarget o = .ext i → (c.writeRam now o v).readRam now o = v) ∧
    (∀ i, c.ramTarget o = .cell i → (c.writeRam now o v).readRam now o = 0xF0 ||| v) := by
  constructor
  · intro i h
    have ht : ({ c with ram := c.ram.write i v } : Cart).ramTarget o = .ext i := h
    simp [Cart.writeRam, h, Cart.readRam, ht]
  · intro i h
    have ht : ({ c with mbc := c.mbc.setCells (c.mbc.cells.write i (v &&& 0x0F)) } : Cart).ramTarget o = .cell i :=
      (Cart.ramTarget_setCells _ _ _).trans h
    simp only [Cart.writeRam, h, Cart.readRam, ht, Cart.cells_setCells_of_target h, Memory.read_write_same, highNibble_or]

/-- A write that reaches a storage cell is read back at its address. -/
theorem read8_write8_same {s : State} {a : Word} {c : StorageCell} (v : Byte) (ha : cellAt s a = some c) :
    read8 (write8 s a v) a = keptByte c v := by
  unfold cellAt at ha
  unfold write8
  cases hr : region a <;> simp only [hr, reduceCtorEq] at ha ⊢
  case cartRam =>
    have h := readRam_writeRam_same (c := s.cart) (now := s.env.now) (o := ramIndex a) v
    unfold read8
    simp only [hr]
    cases ht : s.cart.ramTarget (ramIndex a) <;> simp only [ht, reduceCtorEq] at ha
    · rename_i i
      cases ha
      exact h.1 i ht
    · rename_i i
      cases ha
      exact h.2 i ht
  case echo =>
    cases ha
    simp [read8, hr, writeWram, wramOffset, keptByte]
  case wram =>
    cases ha
    simp [read8, hr, writeWram, wramOffset, keptByte]
  all_goals
    cases ha
    simp [read8, hr, keptByte]

/-- Writing a storage cell does not make its address depend on time. -/
theorem steady_write8_same {s : State} {a : Word} {c : StorageCell} (v : Byte) (ha : cellAt s a = some c)
    (hs : steady s a = true) : steady (write8 s a v) a = true := by
  unfold steady at hs ⊢
  cases hr : region a <;> simp only [hr] at hs ⊢
  case io => simp [cellAt, hr] at ha
  case oam => simpa [write8, hr] using hs
  case cartRam =>
    have hcl : region a = .cartRam → clockAt s a = false := fun _ => by simpa using hs
    simp only [clockAt, ramTarget_write8 v (by simp [hr]) hcl] at hs ⊢
    exact hs

/-! ## Accesses between two bus cycles -/

/-- A read, and time, leave every steady address alone. -/
theorem read8_tick_memRead {s : State} {a : Word} {b : Word} (hb : steady s b = true) :
    read8 (tick (memRead s a)) b = read8 s b := by
  rw [read8_tick (steady_memRead _ hb), read8_memRead _ hb]

theorem steady_tick_memRead {s : State} {a : Word} {b : Word} (hb : steady s b = true) :
    steady (tick (memRead s a)) b = true := steady_tick (steady_memRead _ hb)

/-- A write, and time, leave every steady address alone that the write does not reach. -/
theorem read8_tick_memWrite_other {s : State} {a : Word} {v : Byte} {b : Word} (hb : steady s b = true)
    (hr : reaches s a b = false) : read8 (tick (memWrite s a v)) b = read8 s b := by
  rw [read8_tick (steady_memWrite_other _ hb hr), read8_memWrite_other _ hb hr]

theorem steady_tick_memWrite_other {s : State} {a : Word} {v : Byte} {b : Word} (hb : steady s b = true)
    (hr : reaches s a b = false) : steady (tick (memWrite s a v)) b = true :=
  steady_tick (steady_memWrite_other _ hb hr)

@[simp] theorem cellAt_logAccess (s : State) (w : Bool) (a : Word) (v : Byte) (b : Word) :
    cellAt (logAccess s w a v) b = cellAt s b := (logAccess_sameBacking s w a v).cellAt b

@[simp] theorem cellAt_memRead (s : State) (a b : Word) : cellAt (memRead s a) b = cellAt s b :=
  (memRead_sameBacking s a).cellAt b

/-- A written cell reads back in the next bus cycle. -/
theorem read8_tick_memWrite_same {s : State} {a : Word} {c : StorageCell} (v : Byte) (hc : cellAt s a = some c)
    (hs : steady s a = true) :
    read8 (tick (memWrite s a v)) a = keptByte c v ∧ steady (tick (memWrite s a v)) a = true := by
  have hc' : cellAt (logAccess s true a v) a = some c := by simpa using hc
  have hst : steady (memWrite s a v) a = true := steady_write8_same v hc' hs
  exact ⟨(read8_tick hst).trans (read8_write8_same v hc'), steady_tick hst⟩

end Sys2Proof.Machine
end

