-- ==== Sys2Proof/Laws/Wf.lean ====
section
/-! SUPPORT. The canonical form of the storage arrays: every memory operation of the model keeps it, and the reset state has it. -/

namespace Sys2Proof.Machine

/-! ## Regions and indices -/

theorem region_vram_range {a : Word} (h : region a = .vram) : 0x8000 ≤ a.toNat ∧ a.toNat < 0xA000 := by
  unfold region at h
  repeat' split at h
  all_goals first | exact absurd h (by decide) | omega

theorem region_cartRam_range {a : Word} (h : region a = .cartRam) : 0xA000 ≤ a.toNat ∧ a.toNat < 0xC000 := by
  unfold region at h
  repeat' split at h
  all_goals first | exact absurd h (by decide) | omega

theorem region_oam_range {a : Word} (h : region a = .oam) : 0xFE00 ≤ a.toNat ∧ a.toNat < 0xFEA0 := by
  unfold region at h
  repeat' split at h
  all_goals first | exact absurd h (by decide) | omega

theorem region_hram_range {a : Word} (h : region a = .hram) : 0xFF80 ≤ a.toNat ∧ a.toNat < 0xFFFF := by
  unfold region at h
  repeat' split at h
  all_goals first | exact absurd h (by decide) | omega

theorem vramIndex_lt {a : Word} (h : region a = .vram) : vramIndex a < 8192 := by
  have hr := region_vram_range h
  rw [vramIndex, offset_of_le (by simpa using hr.1)]
  simp
  omega

theorem oamIndex_lt {a : Word} (h : region a = .oam) : oamIndex a < 160 := by
  have hr := region_oam_range h
  rw [oamIndex, offset_of_le (by simpa using hr.1)]
  simp
  omega

theorem hramIndex_lt {a : Word} (h : region a = .hram) : hramIndex a < 127 := by
  have hr := region_hram_range h
  rw [hramIndex, offset_of_le (by simpa using hr.1)]
  simp
  omega

/-- Work RAM offsets lie inside the array (R65, R130). -/
theorem wramOffset_lt {s : State} {a : Word} (h0 : 0xC000 ≤ a.toNat) (h1 : a.toNat < 0xE000) :
    wramOffset s a < wramSize s.params.cgb := by
  have hb : wramBank s.mem.svbk ≤ 7 := by
    have := s.mem.svbk.isLt
    unfold wramBank
    split <;> omega
  have hc : offset a 0xC000 = a.toNat - 0xC000 := offset_of_le (by simpa using h0)
  unfold wramOffset wramSize
  split
  · next h =>
    have hd : offset a 0xD000 = a.toNat - 0xD000 := offset_of_le (by simpa using h.2)
    rw [hd, if_pos h.1]
    omega
  · rw [hc]
    split
    · omega
    · omega

/-! ## The controller -/

@[simp] theorem Mbc.ok_mapClock (b : Mbc) (f : Rtc → Rtc) (n : Nat) : (b.mapClock f).ok n = b.ok n := by cases b <;> rfl

theorem Cart.ok_mapClock {c : Cart} (f : Rtc → Rtc) (h : c.ok = true) : ({ c with mbc := c.mbc.mapClock f } : Cart).ok = true := by
  simpa [Cart.ok, Cart.romMask] using h

theorem Cart.ok_afterReadRam {c : Cart} (now o : Nat) (h : c.ok = true) : (c.afterReadRam now o).ok = true := by
  unfold Cart.afterReadRam
  split
  · exact h
  · exact h
  · exact h
  · exact Cart.ok_mapClock _ h

theorem ramTarget_ext_lt {c : Cart} {o i : Nat} (h : c.ramTarget o = .ext i) : i < c.ramSize := by
  have key : ∀ k, c.extTarget k = .ext i → i < c.ramSize := by
    intro k hk
    unfold Cart.extTarget at hk
    split at hk
    · next hlt => simp only [RamTarget.ext.injEq] at hk; omega
    · exact absurd hk (by simp)
  unfold Cart.ramTarget at h
  split at h
  · exact key _ h
  · split at h
    · exact key _ h
    · exact absurd h (by simp)
  · split at h <;> exact absurd h (by simp)
  · split at h
    · split at h
      · split at h <;> exact absurd h (by simp)
      · exact key _ h
    · exact absurd h (by simp)
  · split at h
    · exact key _ h
    · exact absurd h (by simp)

theorem ramTarget_cell {c : Cart} {o i : Nat} (h : c.ramTarget o = .cell i) : i < 512 ∧ ∃ m, c.mbc = .mbc2 m := by
  have key : ∀ k, c.extTarget k ≠ .cell i := by
    intro k
    unfold Cart.extTarget
    split <;> simp
  unfold Cart.ramTarget at h
  split at h
  · exact absurd h (key _)
  · split at h
    · exact absurd h (key _)
    · exact absurd h (by simp)
  · next m hm =>
    split at h
    · simp only [RamTarget.cell.injEq] at h
      exact ⟨by omega, m, hm⟩
    · exact absurd h (by simp)
  · split at h
    · split at h
      · split at h <;> exact absurd h (by simp)
      · exact absurd h (key _)
    · exact absurd h (by simp)
  · split at h
    · exact absurd h (key _)
    · exact absurd h (by simp)

theorem lowNibble_high (v : Byte) : (v &&& 0x0F) &&& 0xF0 = 0 := by
  rw [BitVec.and_assoc]; simp

/-- A write of the RAM window keeps the cartridge's arrays in canonical form and of their sizes. -/
theorem Cart.ok_writeRam {c : Cart} (now o : Nat) (v : Byte) (h : c.ok = true) : (c.writeRam now o v).ok = true := by
  unfold Cart.writeRam
  split
  · exact h
  · next i ht =>
    have hlt := ramTarget_ext_lt ht
    simp only [Cart.ok, Cart.romMask, Bool.and_eq_true] at h ⊢
    exact ⟨⟨h.1.1, Memory.wf_write i v h.1.2 hlt⟩, h.2⟩
  · next i ht =>
    obtain ⟨hlt, m, hm⟩ := ramTarget_cell ht
    simp only [Cart.ok, Cart.romMask, Bool.and_eq_true, hm] at h ⊢
    refine ⟨h.1, ?_⟩
    have h2 := h.2
    simp only [Mbc.ok, Mbc.setCells, Mbc.cells, Bool.and_eq_true] at h2 ⊢
    exact ⟨⟨h2.1.1, Memory.wf_write i _ h2.1.2 hlt⟩, Memory.all_write i _ h2.2 (by simpa using lowNibble_high v)⟩
  · exact Cart.ok_mapClock _ h

/-- A register write keeps the controller's registers in range (R222, R231, R242). -/
theorem Cart.ok_intercept {c : Cart} (now : Nat) (a : Word) (v : Byte) (h : c.ok = true) : (c.intercept now a v).ok = true := by
  unfold Cart.intercept
  split
  · simp only [Cart.ok, Cart.romMask, Bool.and_eq_true] at h
    obtain ⟨h1, h2⟩ := h
    split
    · next hm => simp only [Cart.ok, Cart.romMask, Bool.and_eq_true]; exact ⟨h1, h2⟩
    · next m hm =>
      simp only [Cart.ok, Cart.romMask, Bool.and_eq_true]
      refine ⟨h1, ?_⟩
      rw [hm] at h2
      simp only [Mbc.ok] at h2 ⊢
      unfold Mbc1.intercept
      split
      · exact h2
      · split
        · dsimp only
          split
          · decide
          · next hz => simpa using hz
        · split <;> exact h2
    · next m hm =>
      simp only [Cart.ok, Cart.romMask, Bool.and_eq_true]
      refine ⟨h1, ?_⟩
      rw [hm] at h2
      simp only [Mbc.ok, Bool.and_eq_true] at h2 ⊢
      unfold Mbc2.intercept
      split
      · split
        · refine ⟨⟨?_, h2.1.2⟩, h2.2⟩
          dsimp only
          split
          · decide
          · next hz => simpa using hz
        · exact h2
      · exact h2
    · next m hm =>
      simp only [Cart.ok, Cart.romMask, Bool.and_eq_true]
      refine ⟨h1, ?_⟩
      rw [hm] at h2
      simp only [Mbc.ok, Bool.and_eq_true] at h2 ⊢
      unfold Mbc3.intercept
      split
      · exact h2
      · split
        · unfold Mbc3.writeRomReg
          refine ⟨⟨by simp, ?_⟩, h2.2⟩
          cases hw : m.wide
          · simp only [Bool.false_or, beq_iff_eq]
            split
            · decide
            · simp only [Bool.false_eq_true, if_false]
              rw [BitVec.and_assoc]; simp
          · rfl
        · split
          · exact h2
          · unfold Mbc3.writeLatch
            split
            · exact h2
            · split <;> exact h2
    · simp only [Cart.ok, Cart.romMask, Bool.and_eq_true, Mbc.ok]
      exact ⟨h1, trivial⟩
  · exact h

/-! ## The whole memory -/

/-- The canonical form of all storage. -/
def MemoryOk (s : State) : Prop := s.mem.ok s.params.cgb = true ∧ s.cart.ok = true

theorem writeWram_ok {s : State} {a : Word} (v : Byte) (h : MemoryOk s) (h0 : 0xC000 ≤ a.toNat) (h1 : a.toNat < 0xE000) :
    MemoryOk (writeWram s a v) := by
  refine ⟨?_, h.2⟩
  have hm := h.1
  simp only [writeWram, Storage.ok, Bool.and_eq_true] at hm ⊢
  exact ⟨⟨⟨⟨Memory.wf_write _ v hm.1.1.1.1 (wramOffset_lt h0 h1), hm.1.1.1.2⟩, hm.1.1.2⟩, hm.1.2⟩, hm.2⟩

theorem writeIo_ok {s : State} (a : Word) (v : Byte) (h : MemoryOk s) : MemoryOk (writeIo s a v) := by
  unfold writeIo
  split <;> try exact h
  · next hr =>
    have hc : s.params.cgb = true := by
      cases hp : s.params.cgb
      · rw [hp] at hr
        unfold ioReg at hr
        repeat' split at hr
        all_goals first | exact absurd hr (by decide) | simp_all
      · rfl
    refine ⟨?_, h.2⟩
    have hm := h.1
    simp only [Storage.ok, hc, Bool.and_eq_true, Bool.true_or, and_true] at hm ⊢
    exact hm
  · split <;> exact h

/-- `write8` keeps the canonical form. -/
theorem write8_ok {s : State} (a : Word) (v : Byte) (h : MemoryOk s) : MemoryOk (write8 s a v) := by
  have hm := h.1
  simp only [Storage.ok, Bool.and_eq_true] at hm
  unfold write8
  split
  · exact ⟨h.1, Cart.ok_intercept _ a v h.2⟩
  · next hr =>
    refine ⟨?_, h.2⟩
    simp only [Storage.ok, Bool.and_eq_true]
    exact ⟨⟨⟨⟨hm.1.1.1.1, Memory.wf_write _ v hm.1.1.1.2 (vramIndex_lt hr)⟩, hm.1.1.2⟩, hm.1.2⟩, hm.2⟩
  · exact ⟨h.1, Cart.ok_writeRam _ _ v h.2⟩
  · next hr => exact writeWram_ok v h (region_wram_range hr).1 (region_wram_range hr).2
  · next hr =>
    have he := echoBase_toNat hr
    have hb := region_echo_range hr
    exact writeWram_ok v h (by omega) (by omega)
  · next hr =>
    refine ⟨?_, h.2⟩
    simp only [Storage.ok, Bool.and_eq_true]
    exact ⟨⟨⟨hm.1.1.1, Memory.wf_write _ v hm.1.1.2 (oamIndex_lt hr)⟩, hm.1.2⟩, hm.2⟩
  · exact h
  · exact writeIo_ok a v h
  · next hr =>
    refine ⟨?_, h.2⟩
    simp only [Storage.ok, Bool.and_eq_true]
    exact ⟨⟨hm.1.1, Memory.wf_write _ v hm.1.2 (hramIndex_lt hr)⟩, hm.2⟩
  · exact h

/-- A CPU write keeps the canonical form. -/
theorem memWrite_ok {s : State} (a : Word) (v : Byte) (h : MemoryOk s) : MemoryOk (memWrite s a v) :=
  write8_ok a v (s := logAccess s true a v) h

/-- The effect of a read keeps the canonical form. -/
theorem afterRead_ok {s : State} (a : Word) (h : MemoryOk s) : MemoryOk (afterRead s a) := by
  refine ⟨h.1, ?_⟩
  unfold afterRead
  dsimp only
  split
  · exact Cart.ok_afterReadRam _ _ h.2
  · exact h.2

/-- A CPU read keeps the canonical form. -/
theorem memRead_ok {s : State} (a : Word) (h : MemoryOk s) : MemoryOk (memRead s a) := afterRead_ok a h

/-- The DMA phase keeps the canonical form: it writes OAM inside the array. -/
theorem dmaPhase_ok {s : State} (hd : s.dma.ok = true) (h : MemoryOk s) : MemoryOk (dmaPhase s) := by
  have hm := h.1
  simp only [Storage.ok, Bool.and_eq_true] at hm
  refine ⟨?_, ?_⟩
  · simp only [dmaPhase, Storage.ok, Bool.and_eq_true]
    refine ⟨⟨⟨hm.1.1.1, ?_⟩, hm.1.2⟩, hm.2⟩
    split
    · next hc =>
      have ha : s.dma.active = true := by
        simp only [Dma.copies, Bool.and_eq_true] at hc
        exact hc.1
      have hi : s.dma.idx < 160 := by
        simp only [Dma.ok, Bool.and_eq_true, ha, Bool.not_true, Bool.false_or, decide_eq_true_eq] at hd
        exact hd.1.2.1
      exact Memory.wf_write _ _ hm.1.1.2 hi
    · exact hm.1.1.2
  · simp only [dmaPhase]
    split
    · exact (afterRead_ok _ h).2
    · exact h.2

/-- A bus cycle without a CPU access keeps the canonical form. -/
theorem tick_ok {s : State} (hd : s.dma.ok = true) (h : MemoryOk s) : MemoryOk (tick s) := dmaPhase_ok hd h

/-- The arrays of a loaded machine are in canonical form, whatever the draws. -/
theorem bootState_mem_ok (q : LoadRequest) (c : Cart) : (bootState q c).mem.ok q.params.cgb = true := by
  simp [bootState, Storage.ok, Memory.wf_ofCells]

/-- The reset state's memory is in canonical form. -/
theorem reset_memoryOk : MemoryOk State.reset := ⟨by decide, by decide⟩

/-! ## Placing an instruction -/

theorem lowBank_lt (c : Cart) (h : c.ok = true) : c.lowBank < 256 := by
  have hk : c.romMask < 256 := by
    unfold Cart.romMask powerOfTwoAtLeast
    repeat' split
    all_goals omega
  unfold Cart.lowBank
  split
  · split
    · exact Nat.lt_of_le_of_lt Nat.and_le_right hk
    · omega
  all_goals omega

theorem highBank_lt (c : Cart) (h : c.ok = true) : c.highBank < 256 := by
  have hk : c.romMask < 256 := by
    unfold Cart.romMask powerOfTwoAtLeast
    repeat' split
    all_goals omega
  unfold Cart.highBank
  split
  · omega
  · split <;> exact Nat.lt_of_le_of_lt Nat.and_le_right hk
  · exact Nat.lt_of_le_of_lt Nat.and_le_right hk
  · next m _ => exact m.romBank.isLt
  · exact Nat.lt_of_le_of_lt Nat.and_le_right hk

theorem romOffset_lt (c : Cart) (h : c.ok = true) {a : Word} (ha : a.toNat < 0x8000) : c.romOffset a < maxRomSize := by
  have hl := lowBank_lt c h
  have hh := highBank_lt c h
  have e : maxRomSize = 4194304 := rfl
  rw [e]
  unfold Cart.romOffset
  split
  · omega
  · next hn =>
    have ho : offset a 0x4000 = a.toNat - 0x4000 := offset_of_le (by simp; omega)
    rw [ho]
    omega

/-- Placing a byte keeps the canonical form. -/
theorem placeByte_ok {s : State} (a : Word) (v : Byte) (h : MemoryOk s) : MemoryOk (placeByte s a v) := by
  unfold placeByte
  split
  · next hr =>
    have hlt : a.toNat < 0x8000 := by
      unfold region at hr
      repeat' split at hr
      all_goals first | exact absurd hr (by decide) | omega
    refine ⟨h.1, ?_⟩
    have hc := h.2
    have ho := romOffset_lt s.cart hc hlt
    simp only [Cart.ok, Cart.romMask, Bool.and_eq_true] at hc ⊢
    exact ⟨⟨⟨hc.1.1.1, Memory.wf_write _ v hc.1.1.2 ho⟩, hc.1.2⟩, hc.2⟩
  · exact ⟨h.1, Cart.ok_writeRam _ _ v h.2⟩
  · exact write8_ok a v h
  · exact write8_ok a v h
  · exact write8_ok a v h
  · exact write8_ok a v h
  · exact h
  · exact h
  · exact h
  · exact h

end Sys2Proof.Machine
end

