-- ==== Sys2Proof/Tests/Slice0.lean ====
section
/-! SUPPORT. Tests whose expected results come from the spec (the maps of R326 and R329, the vectors of 95_test_vectors.md), the smoke test of
WellFormed, and for every obligation with hypotheses a concrete state and operands that meet them. -/

namespace Sys2Proof

namespace Tests

open Machine

/-! ## WellFormed refuses what is no instruction -/

theorem test_wellFormed_refuses_illegal_opcode : Instr.illegal_0xD3.wellFormed = false := by decide
theorem test_wellFormed_refuses_prefix_byte_alone : Instr.PREFIX_CB.wellFormed = false := by decide
theorem test_wellFormed_accepts : Instr.wellFormed (.LD_BC_nn 0x1234) = true ∧ Instr.SET_7_A.wellFormed = true := by decide

/-! ## Decoding, every constructor: the words of the primary map (R326) and of the CB map (R329), row by row

Immediate bytes are 0x34, and 0x34 0x12 for a word (R123, R324). -/

/-- What the decoder reads, and the bytes it leaves. -/
def reads (bytes : List Byte) : Option (Instr × List Byte) := (decode bytes).toOption

theorem test_decode_row_0x : List.map reads
   [[0x00], [0x01, 0x34, 0x12], [0x02], [0x03], [0x04], [0x05], [0x06, 0x34], [0x07], [0x08, 0x34, 0x12], [0x09],
    [0x0A], [0x0B], [0x0C], [0x0D], [0x0E, 0x34], [0x0F]] =
   [some (.NOP, []), some (.LD_BC_nn 0x1234, []), some (.LD_mBC_A, []), some (.INC_BC, []), some (.INC_B, []),
    some (.DEC_B, []), some (.LD_B_n 0x34, []), some (.RLCA, []), some (.LD_mnn_SP 0x1234, []),
    some (.ADD_HL_BC, []), some (.LD_A_mBC, []), some (.DEC_BC, []), some (.INC_C, []), some (.DEC_C, []),
    some (.LD_C_n 0x34, []), some (.RRCA, [])] := by decide

theorem test_decode_row_1x : List.map reads
   [[0x10], [0x11, 0x34, 0x12], [0x12], [0x13], [0x14], [0x15], [0x16, 0x34], [0x17], [0x18, 0x34], [0x19], [0x1A],
    [0x1B], [0x1C], [0x1D], [0x1E, 0x34], [0x1F]] =
   [some (.STOP, []), some (.LD_DE_nn 0x1234, []), some (.LD_mDE_A, []), some (.INC_DE, []), some (.INC_D, []),
    some (.DEC_D, []), some (.LD_D_n 0x34, []), some (.RLA, []), some (.JR_e 0x34, []), some (.ADD_HL_DE, []),
    some (.LD_A_mDE, []), some (.DEC_DE, []), some (.INC_E, []), some (.DEC_E, []), some (.LD_E_n 0x34, []),
    some (.RRA, [])] := by decide

theorem test_decode_row_2x : List.map reads
   [[0x20, 0x34], [0x21, 0x34, 0x12], [0x22], [0x23], [0x24], [0x25], [0x26, 0x34], [0x27], [0x28, 0x34], [0x29],
    [0x2A], [0x2B], [0x2C], [0x2D], [0x2E, 0x34], [0x2F]] =
   [some (.JR_NZ_e 0x34, []), some (.LD_HL_nn 0x1234, []), some (.LD_mHLinc_A, []), some (.INC_HL, []),
    some (.INC_H, []), some (.DEC_H, []), some (.LD_H_n 0x34, []), some (.DAA, []), some (.JR_Z_e 0x34, []),
    some (.ADD_HL_HL, []), some (.LD_A_mHLinc, []), some (.DEC_HL, []), some (.INC_L, []), some (.DEC_L, []),
    some (.LD_L_n 0x34, []), some (.CPL, [])] := by decide

theorem test_decode_row_3x : List.map reads
   [[0x30, 0x34], [0x31, 0x34, 0x12], [0x32], [0x33], [0x34], [0x35], [0x36, 0x34], [0x37], [0x38, 0x34], [0x39],
    [0x3A], [0x3B], [0x3C], [0x3D], [0x3E, 0x34], [0x3F]] =
   [some (.JR_NC_e 0x34, []), some (.LD_SP_nn 0x1234, []), some (.LD_mHLdec_A, []), some (.INC_SP, []),
    some (.INC_mHL, []), some (.DEC_mHL, []), some (.LD_mHL_n 0x34, []), some (.SCF, []), some (.JR_C_e 0x34, []),
    some (.ADD_HL_SP, []), some (.LD_A_mHLdec, []), some (.DEC_SP, []), some (.INC_A, []), some (.DEC_A, []),
    some (.LD_A_n 0x34, []), some (.CCF, [])] := by decide

theorem test_decode_row_4x : List.map reads
   [[0x40], [0x41], [0x42], [0x43], [0x44], [0x45], [0x46], [0x47], [0x48], [0x49], [0x4A], [0x4B], [0x4C], [0x4D],
    [0x4E], [0x4F]] =
   [some (.LD_B_B, []), some (.LD_B_C, []), some (.LD_B_D, []), some (.LD_B_E, []), some (.LD_B_H, []),
    some (.LD_B_L, []), some (.LD_B_mHL, []), some (.LD_B_A, []), some (.LD_C_B, []), some (.LD_C_C, []),
    some (.LD_C_D, []), some (.LD_C_E, []), some (.LD_C_H, []), some (.LD_C_L, []), some (.LD_C_mHL, []),
    some (.LD_C_A, [])] := by decide

theorem test_decode_row_5x : List.map reads
   [[0x50], [0x51], [0x52], [0x53], [0x54], [0x55], [0x56], [0x57], [0x58], [0x59], [0x5A], [0x5B], [0x5C], [0x5D],
    [0x5E], [0x5F]] =
   [some (.LD_D_B, []), some (.LD_D_C, []), some (.LD_D_D, []), some (.LD_D_E, []), some (.LD_D_H, []),
    some (.LD_D_L, []), some (.LD_D_mHL, []), some (.LD_D_A, []), some (.LD_E_B, []), some (.LD_E_C, []),
    some (.LD_E_D, []), some (.LD_E_E, []), some (.LD_E_H, []), some (.LD_E_L, []), some (.LD_E_mHL, []),
    some (.LD_E_A, [])] := by decide

theorem test_decode_row_6x : List.map reads
   [[0x60], [0x61], [0x62], [0x63], [0x64], [0x65], [0x66], [0x67], [0x68], [0x69], [0x6A], [0x6B], [0x6C], [0x6D],
    [0x6E], [0x6F]] =
   [some (.LD_H_B, []), some (.LD_H_C, []), some (.LD_H_D, []), some (.LD_H_E, []), some (.LD_H_H, []),
    some (.LD_H_L, []), some (.LD_H_mHL, []), some (.LD_H_A, []), some (.LD_L_B, []), some (.LD_L_C, []),
    some (.LD_L_D, []), some (.LD_L_E, []), some (.LD_L_H, []), some (.LD_L_L, []), some (.LD_L_mHL, []),
    some (.LD_L_A, [])] := by decide

theorem test_decode_row_7x : List.map reads
   [[0x70], [0x71], [0x72], [0x73], [0x74], [0x75], [0x76], [0x77], [0x78], [0x79], [0x7A], [0x7B], [0x7C], [0x7D],
    [0x7E], [0x7F]] =
   [some (.LD_mHL_B, []), some (.LD_mHL_C, []), some (.LD_mHL_D, []), some (.LD_mHL_E, []), some (.LD_mHL_H, []),
    some (.LD_mHL_L, []), some (.HALT, []), some (.LD_mHL_A, []), some (.LD_A_B, []), some (.LD_A_C, []),
    some (.LD_A_D, []), some (.LD_A_E, []), some (.LD_A_H, []), some (.LD_A_L, []), some (.LD_A_mHL, []),
    some (.LD_A_A, [])] := by decide

theorem test_decode_row_8x : List.map reads
   [[0x80], [0x81], [0x82], [0x83], [0x84], [0x85], [0x86], [0x87], [0x88], [0x89], [0x8A], [0x8B], [0x8C], [0x8D],
    [0x8E], [0x8F]] =
   [some (.ADD_A_B, []), some (.ADD_A_C, []), some (.ADD_A_D, []), some (.ADD_A_E, []), some (.ADD_A_H, []),
    some (.ADD_A_L, []), some (.ADD_A_mHL, []), some (.ADD_A_A, []), some (.ADC_A_B, []), some (.ADC_A_C, []),
    some (.ADC_A_D, []), some (.ADC_A_E, []), some (.ADC_A_H, []), some (.ADC_A_L, []), some (.ADC_A_mHL, []),
    some (.ADC_A_A, [])] := by decide

theorem test_decode_row_9x : List.map reads
   [[0x90], [0x91], [0x92], [0x93], [0x94], [0x95], [0x96], [0x97], [0x98], [0x99], [0x9A], [0x9B], [0x9C], [0x9D],
    [0x9E], [0x9F]] =
   [some (.SUB_A_B, []), some (.SUB_A_C, []), some (.SUB_A_D, []), some (.SUB_A_E, []), some (.SUB_A_H, []),
    some (.SUB_A_L, []), some (.SUB_A_mHL, []), some (.SUB_A_A, []), some (.SBC_A_B, []), some (.SBC_A_C, []),
    some (.SBC_A_D, []), some (.SBC_A_E, []), some (.SBC_A_H, []), some (.SBC_A_L, []), some (.SBC_A_mHL, []),
    some (.SBC_A_A, [])] := by decide

theorem test_decode_row_Ax : List.map reads
   [[0xA0], [0xA1], [0xA2], [0xA3], [0xA4], [0xA5], [0xA6], [0xA7], [0xA8], [0xA9], [0xAA], [0xAB], [0xAC], [0xAD],
    [0xAE], [0xAF]] =
   [some (.AND_A_B, []), some (.AND_A_C, []), some (.AND_A_D, []), some (.AND_A_E, []), some (.AND_A_H, []),
    some (.AND_A_L, []), some (.AND_A_mHL, []), some (.AND_A_A, []), some (.XOR_A_B, []), some (.XOR_A_C, []),
    some (.XOR_A_D, []), some (.XOR_A_E, []), some (.XOR_A_H, []), some (.XOR_A_L, []), some (.XOR_A_mHL, []),
    some (.XOR_A_A, [])] := by decide

theorem test_decode_row_Bx : List.map reads
   [[0xB0], [0xB1], [0xB2], [0xB3], [0xB4], [0xB5], [0xB6], [0xB7], [0xB8], [0xB9], [0xBA], [0xBB], [0xBC], [0xBD],
    [0xBE], [0xBF]] =
   [some (.OR_A_B, []), some (.OR_A_C, []), some (.OR_A_D, []), some (.OR_A_E, []), some (.OR_A_H, []),
    some (.OR_A_L, []), some (.OR_A_mHL, []), some (.OR_A_A, []), some (.CP_A_B, []), some (.CP_A_C, []),
    some (.CP_A_D, []), some (.CP_A_E, []), some (.CP_A_H, []), some (.CP_A_L, []), some (.CP_A_mHL, []),
    some (.CP_A_A, [])] := by decide

theorem test_decode_row_Cx : List.map reads
   [[0xC0], [0xC1], [0xC2, 0x34, 0x12], [0xC3, 0x34, 0x12], [0xC4, 0x34, 0x12], [0xC5], [0xC6, 0x34], [0xC7], [0xC8],
    [0xC9], [0xCA, 0x34, 0x12], [0xCB], [0xCC, 0x34, 0x12], [0xCD, 0x34, 0x12], [0xCE, 0x34], [0xCF]] =
   [some (.RET_NZ, []), some (.POP_BC, []), some (.JP_NZ_nn 0x1234, []), some (.JP_nn 0x1234, []),
    some (.CALL_NZ_nn 0x1234, []), some (.PUSH_BC, []), some (.ADD_A_n 0x34, []), some (.RST_00H, []),
    some (.RET_Z, []), some (.RET, []), some (.JP_Z_nn 0x1234, []), some (.PREFIX_CB, []),
    some (.CALL_Z_nn 0x1234, []), some (.CALL_nn 0x1234, []), some (.ADC_A_n 0x34, []), some (.RST_08H, [])] := by decide

theorem test_decode_row_Dx : List.map reads
   [[0xD0], [0xD1], [0xD2, 0x34, 0x12], [0xD3], [0xD4, 0x34, 0x12], [0xD5], [0xD6, 0x34], [0xD7], [0xD8], [0xD9],
    [0xDA, 0x34, 0x12], [0xDB], [0xDC, 0x34, 0x12], [0xDD], [0xDE, 0x34], [0xDF]] =
   [some (.RET_NC, []), some (.POP_DE, []), some (.JP_NC_nn 0x1234, []), some (.illegal_0xD3, []),
    some (.CALL_NC_nn 0x1234, []), some (.PUSH_DE, []), some (.SUB_A_n 0x34, []), some (.RST_10H, []),
    some (.RET_C, []), some (.RETI, []), some (.JP_C_nn 0x1234, []), some (.illegal_0xDB, []),
    some (.CALL_C_nn 0x1234, []), some (.illegal_0xDD, []), some (.SBC_A_n 0x34, []), some (.RST_18H, [])] := by decide

theorem test_decode_row_Ex : List.map reads
   [[0xE0, 0x34], [0xE1], [0xE2], [0xE3], [0xE4], [0xE5], [0xE6, 0x34], [0xE7], [0xE8, 0x34], [0xE9],
    [0xEA, 0x34, 0x12], [0xEB], [0xEC], [0xED], [0xEE, 0x34], [0xEF]] =
   [some (.LDH_mn_A 0x34, []), some (.POP_HL, []), some (.LD_mC_A, []), some (.illegal_0xE3, []),
    some (.illegal_0xE4, []), some (.PUSH_HL, []), some (.AND_A_n 0x34, []), some (.RST_20H, []),
    some (.ADD_SP_e 0x34, []), some (.JP_HL, []), some (.LD_mnn_A 0x1234, []), some (.illegal_0xEB, []),
    some (.illegal_0xEC, []), some (.illegal_0xED, []), some (.XOR_A_n 0x34, []), some (.RST_28H, [])] := by decide

theorem test_decode_row_Fx : List.map reads
   [[0xF0, 0x34], [0xF1], [0xF2], [0xF3], [0xF4], [0xF5], [0xF6, 0x34], [0xF7], [0xF8, 0x34], [0xF9],
    [0xFA, 0x34, 0x12], [0xFB], [0xFC], [0xFD], [0xFE, 0x34], [0xFF]] =
   [some (.LDH_A_mn 0x34, []), some (.POP_AF, []), some (.LD_A_mC, []), some (.DI, []), some (.illegal_0xF4, []),
    some (.PUSH_AF, []), some (.OR_A_n 0x34, []), some (.RST_30H, []), some (.LD_HL_SP_e 0x34, []),
    some (.LD_SP_HL, []), some (.LD_A_mnn 0x1234, []), some (.EI, []), some (.illegal_0xFC, []),
    some (.illegal_0xFD, []), some (.CP_A_n 0x34, []), some (.RST_38H, [])] := by decide

theorem test_decode_row_CB_0x : List.map reads
   [[0xCB, 0x00], [0xCB, 0x01], [0xCB, 0x02], [0xCB, 0x03], [0xCB, 0x04], [0xCB, 0x05], [0xCB, 0x06], [0xCB, 0x07],
    [0xCB, 0x08], [0xCB, 0x09], [0xCB, 0x0A], [0xCB, 0x0B], [0xCB, 0x0C], [0xCB, 0x0D], [0xCB, 0x0E], [0xCB, 0x0F]] =
   [some (.RLC_B, []), some (.RLC_C, []), some (.RLC_D, []), some (.RLC_E, []), some (.RLC_H, []), some (.RLC_L, []),
    some (.RLC_mHL, []), some (.RLC_A, []), some (.RRC_B, []), some (.RRC_C, []), some (.RRC_D, []),
    some (.RRC_E, []), some (.RRC_H, []), some (.RRC_L, []), some (.RRC_mHL, []), some (.RRC_A, [])] := by decide

theorem test_decode_row_CB_1x : List.map reads
   [[0xCB, 0x10], [0xCB, 0x11], [0xCB, 0x12], [0xCB, 0x13], [0xCB, 0x14], [0xCB, 0x15], [0xCB, 0x16], [0xCB, 0x17],
    [0xCB, 0x18], [0xCB, 0x19], [0xCB, 0x1A], [0xCB, 0x1B], [0xCB, 0x1C], [0xCB, 0x1D], [0xCB, 0x1E], [0xCB, 0x1F]] =
   [some (.RL_B, []), some (.RL_C, []), some (.RL_D, []), some (.RL_E, []), some (.RL_H, []), some (.RL_L, []),
    some (.RL_mHL, []), some (.RL_A, []), some (.RR_B, []), some (.RR_C, []), some (.RR_D, []), some (.RR_E, []),
    some (.RR_H, []), some (.RR_L, []), some (.RR_mHL, []), some (.RR_A, [])] := by decide

theorem test_decode_row_CB_2x : List.map reads
   [[0xCB, 0x20], [0xCB, 0x21], [0xCB, 0x22], [0xCB, 0x23], [0xCB, 0x24], [0xCB, 0x25], [0xCB, 0x26], [0xCB, 0x27],
    [0xCB, 0x28], [0xCB, 0x29], [0xCB, 0x2A], [0xCB, 0x2B], [0xCB, 0x2C], [0xCB, 0x2D], [0xCB, 0x2E], [0xCB, 0x2F]] =
   [some (.SLA_B, []), some (.SLA_C, []), some (.SLA_D, []), some (.SLA_E, []), some (.SLA_H, []), some (.SLA_L, []),
    some (.SLA_mHL, []), some (.SLA_A, []), some (.SRA_B, []), some (.SRA_C, []), some (.SRA_D, []),
    some (.SRA_E, []), some (.SRA_H, []), some (.SRA_L, []), some (.SRA_mHL, []), some (.SRA_A, [])] := by decide

theorem test_decode_row_CB_3x : List.map reads
   [[0xCB, 0x30], [0xCB, 0x31], [0xCB, 0x32], [0xCB, 0x33], [0xCB, 0x34], [0xCB, 0x35], [0xCB, 0x36], [0xCB, 0x37],
    [0xCB, 0x38], [0xCB, 0x39], [0xCB, 0x3A], [0xCB, 0x3B], [0xCB, 0x3C], [0xCB, 0x3D], [0xCB, 0x3E], [0xCB, 0x3F]] =
   [some (.SWAP_B, []), some (.SWAP_C, []), some (.SWAP_D, []), some (.SWAP_E, []), some (.SWAP_H, []),
    some (.SWAP_L, []), some (.SWAP_mHL, []), some (.SWAP_A, []), some (.SRL_B, []), some (.SRL_C, []),
    some (.SRL_D, []), some (.SRL_E, []), some (.SRL_H, []), some (.SRL_L, []), some (.SRL_mHL, []), some (.SRL_A, [])] := by decide

theorem test_decode_row_CB_4x : List.map reads
   [[0xCB, 0x40], [0xCB, 0x41], [0xCB, 0x42], [0xCB, 0x43], [0xCB, 0x44], [0xCB, 0x45], [0xCB, 0x46], [0xCB, 0x47],
    [0xCB, 0x48], [0xCB, 0x49], [0xCB, 0x4A], [0xCB, 0x4B], [0xCB, 0x4C], [0xCB, 0x4D], [0xCB, 0x4E], [0xCB, 0x4F]] =
   [some (.BIT_0_B, []), some (.BIT_0_C, []), some (.BIT_0_D, []), some (.BIT_0_E, []), some (.BIT_0_H, []),
    some (.BIT_0_L, []), some (.BIT_0_mHL, []), some (.BIT_0_A, []), some (.BIT_1_B, []), some (.BIT_1_C, []),
    some (.BIT_1_D, []), some (.BIT_1_E, []), some (.BIT_1_H, []), some (.BIT_1_L, []), some (.BIT_1_mHL, []),
    some (.BIT_1_A, [])] := by decide

theorem test_decode_row_CB_5x : List.map reads
   [[0xCB, 0x50], [0xCB, 0x51], [0xCB, 0x52], [0xCB, 0x53], [0xCB, 0x54], [0xCB, 0x55], [0xCB, 0x56], [0xCB, 0x57],
    [0xCB, 0x58], [0xCB, 0x59], [0xCB, 0x5A], [0xCB, 0x5B], [0xCB, 0x5C], [0xCB, 0x5D], [0xCB, 0x5E], [0xCB, 0x5F]] =
   [some (.BIT_2_B, []), some (.BIT_2_C, []), some (.BIT_2_D, []), some (.BIT_2_E, []), some (.BIT_2_H, []),
    some (.BIT_2_L, []), some (.BIT_2_mHL, []), some (.BIT_2_A, []), some (.BIT_3_B, []), some (.BIT_3_C, []),
    some (.BIT_3_D, []), some (.BIT_3_E, []), some (.BIT_3_H, []), some (.BIT_3_L, []), some (.BIT_3_mHL, []),
    some (.BIT_3_A, [])] := by decide

theorem test_decode_row_CB_6x : List.map reads
   [[0xCB, 0x60], [0xCB, 0x61], [0xCB, 0x62], [0xCB, 0x63], [0xCB, 0x64], [0xCB, 0x65], [0xCB, 0x66], [0xCB, 0x67],
    [0xCB, 0x68], [0xCB, 0x69], [0xCB, 0x6A], [0xCB, 0x6B], [0xCB, 0x6C], [0xCB, 0x6D], [0xCB, 0x6E], [0xCB, 0x6F]] =
   [some (.BIT_4_B, []), some (.BIT_4_C, []), some (.BIT_4_D, []), some (.BIT_4_E, []), some (.BIT_4_H, []),
    some (.BIT_4_L, []), some (.BIT_4_mHL, []), some (.BIT_4_A, []), some (.BIT_5_B, []), some (.BIT_5_C, []),
    some (.BIT_5_D, []), some (.BIT_5_E, []), some (.BIT_5_H, []), some (.BIT_5_L, []), some (.BIT_5_mHL, []),
    some (.BIT_5_A, [])] := by decide

theorem test_decode_row_CB_7x : List.map reads
   [[0xCB, 0x70], [0xCB, 0x71], [0xCB, 0x72], [0xCB, 0x73], [0xCB, 0x74], [0xCB, 0x75], [0xCB, 0x76], [0xCB, 0x77],
    [0xCB, 0x78], [0xCB, 0x79], [0xCB, 0x7A], [0xCB, 0x7B], [0xCB, 0x7C], [0xCB, 0x7D], [0xCB, 0x7E], [0xCB, 0x7F]] =
   [some (.BIT_6_B, []), some (.BIT_6_C, []), some (.BIT_6_D, []), some (.BIT_6_E, []), some (.BIT_6_H, []),
    some (.BIT_6_L, []), some (.BIT_6_mHL, []), some (.BIT_6_A, []), some (.BIT_7_B, []), some (.BIT_7_C, []),
    some (.BIT_7_D, []), some (.BIT_7_E, []), some (.BIT_7_H, []), some (.BIT_7_L, []), some (.BIT_7_mHL, []),
    some (.BIT_7_A, [])] := by decide

theorem test_decode_row_CB_8x : List.map reads
   [[0xCB, 0x80], [0xCB, 0x81], [0xCB, 0x82], [0xCB, 0x83], [0xCB, 0x84], [0xCB, 0x85], [0xCB, 0x86], [0xCB, 0x87],
    [0xCB, 0x88], [0xCB, 0x89], [0xCB, 0x8A], [0xCB, 0x8B], [0xCB, 0x8C], [0xCB, 0x8D], [0xCB, 0x8E], [0xCB, 0x8F]] =
   [some (.RES_0_B, []), some (.RES_0_C, []), some (.RES_0_D, []), some (.RES_0_E, []), some (.RES_0_H, []),
    some (.RES_0_L, []), some (.RES_0_mHL, []), some (.RES_0_A, []), some (.RES_1_B, []), some (.RES_1_C, []),
    some (.RES_1_D, []), some (.RES_1_E, []), some (.RES_1_H, []), some (.RES_1_L, []), some (.RES_1_mHL, []),
    some (.RES_1_A, [])] := by decide

theorem test_decode_row_CB_9x : List.map reads
   [[0xCB, 0x90], [0xCB, 0x91], [0xCB, 0x92], [0xCB, 0x93], [0xCB, 0x94], [0xCB, 0x95], [0xCB, 0x96], [0xCB, 0x97],
    [0xCB, 0x98], [0xCB, 0x99], [0xCB, 0x9A], [0xCB, 0x9B], [0xCB, 0x9C], [0xCB, 0x9D], [0xCB, 0x9E], [0xCB, 0x9F]] =
   [some (.RES_2_B, []), some (.RES_2_C, []), some (.RES_2_D, []), some (.RES_2_E, []), some (.RES_2_H, []),
    some (.RES_2_L, []), some (.RES_2_mHL, []), some (.RES_2_A, []), some (.RES_3_B, []), some (.RES_3_C, []),
    some (.RES_3_D, []), some (.RES_3_E, []), some (.RES_3_H, []), some (.RES_3_L, []), some (.RES_3_mHL, []),
    some (.RES_3_A, [])] := by decide

theorem test_decode_row_CB_Ax : List.map reads
   [[0xCB, 0xA0], [0xCB, 0xA1], [0xCB, 0xA2], [0xCB, 0xA3], [0xCB, 0xA4], [0xCB, 0xA5], [0xCB, 0xA6], [0xCB, 0xA7],
    [0xCB, 0xA8], [0xCB, 0xA9], [0xCB, 0xAA], [0xCB, 0xAB], [0xCB, 0xAC], [0xCB, 0xAD], [0xCB, 0xAE], [0xCB, 0xAF]] =
   [some (.RES_4_B, []), some (.RES_4_C, []), some (.RES_4_D, []), some (.RES_4_E, []), some (.RES_4_H, []),
    some (.RES_4_L, []), some (.RES_4_mHL, []), some (.RES_4_A, []), some (.RES_5_B, []), some (.RES_5_C, []),
    some (.RES_5_D, []), some (.RES_5_E, []), some (.RES_5_H, []), some (.RES_5_L, []), some (.RES_5_mHL, []),
    some (.RES_5_A, [])] := by decide

theorem test_decode_row_CB_Bx : List.map reads
   [[0xCB, 0xB0], [0xCB, 0xB1], [0xCB, 0xB2], [0xCB, 0xB3], [0xCB, 0xB4], [0xCB, 0xB5], [0xCB, 0xB6], [0xCB, 0xB7],
    [0xCB, 0xB8], [0xCB, 0xB9], [0xCB, 0xBA], [0xCB, 0xBB], [0xCB, 0xBC], [0xCB, 0xBD], [0xCB, 0xBE], [0xCB, 0xBF]] =
   [some (.RES_6_B, []), some (.RES_6_C, []), some (.RES_6_D, []), some (.RES_6_E, []), some (.RES_6_H, []),
    some (.RES_6_L, []), some (.RES_6_mHL, []), some (.RES_6_A, []), some (.RES_7_B, []), some (.RES_7_C, []),
    some (.RES_7_D, []), some (.RES_7_E, []), some (.RES_7_H, []), some (.RES_7_L, []), some (.RES_7_mHL, []),
    some (.RES_7_A, [])] := by decide

theorem test_decode_row_CB_Cx : List.map reads
   [[0xCB, 0xC0], [0xCB, 0xC1], [0xCB, 0xC2], [0xCB, 0xC3], [0xCB, 0xC4], [0xCB, 0xC5], [0xCB, 0xC6], [0xCB, 0xC7],
    [0xCB, 0xC8], [0xCB, 0xC9], [0xCB, 0xCA], [0xCB, 0xCB], [0xCB, 0xCC], [0xCB, 0xCD], [0xCB, 0xCE], [0xCB, 0xCF]] =
   [some (.SET_0_B, []), some (.SET_0_C, []), some (.SET_0_D, []), some (.SET_0_E, []), some (.SET_0_H, []),
    some (.SET_0_L, []), some (.SET_0_mHL, []), some (.SET_0_A, []), some (.SET_1_B, []), some (.SET_1_C, []),
    some (.SET_1_D, []), some (.SET_1_E, []), some (.SET_1_H, []), some (.SET_1_L, []), some (.SET_1_mHL, []),
    some (.SET_1_A, [])] := by decide

theorem test_decode_row_CB_Dx : List.map reads
   [[0xCB, 0xD0], [0xCB, 0xD1], [0xCB, 0xD2], [0xCB, 0xD3], [0xCB, 0xD4], [0xCB, 0xD5], [0xCB, 0xD6], [0xCB, 0xD7],
    [0xCB, 0xD8], [0xCB, 0xD9], [0xCB, 0xDA], [0xCB, 0xDB], [0xCB, 0xDC], [0xCB, 0xDD], [0xCB, 0xDE], [0xCB, 0xDF]] =
   [some (.SET_2_B, []), some (.SET_2_C, []), some (.SET_2_D, []), some (.SET_2_E, []), some (.SET_2_H, []),
    some (.SET_2_L, []), some (.SET_2_mHL, []), some (.SET_2_A, []), some (.SET_3_B, []), some (.SET_3_C, []),
    some (.SET_3_D, []), some (.SET_3_E, []), some (.SET_3_H, []), some (.SET_3_L, []), some (.SET_3_mHL, []),
    some (.SET_3_A, [])] := by decide

theorem test_decode_row_CB_Ex : List.map reads
   [[0xCB, 0xE0], [0xCB, 0xE1], [0xCB, 0xE2], [0xCB, 0xE3], [0xCB, 0xE4], [0xCB, 0xE5], [0xCB, 0xE6], [0xCB, 0xE7],
    [0xCB, 0xE8], [0xCB, 0xE9], [0xCB, 0xEA], [0xCB, 0xEB], [0xCB, 0xEC], [0xCB, 0xED], [0xCB, 0xEE], [0xCB, 0xEF]] =
   [some (.SET_4_B, []), some (.SET_4_C, []), some (.SET_4_D, []), some (.SET_4_E, []), some (.SET_4_H, []),
    some (.SET_4_L, []), some (.SET_4_mHL, []), some (.SET_4_A, []), some (.SET_5_B, []), some (.SET_5_C, []),
    some (.SET_5_D, []), some (.SET_5_E, []), some (.SET_5_H, []), some (.SET_5_L, []), some (.SET_5_mHL, []),
    some (.SET_5_A, [])] := by decide

theorem test_decode_row_CB_Fx : List.map reads
   [[0xCB, 0xF0], [0xCB, 0xF1], [0xCB, 0xF2], [0xCB, 0xF3], [0xCB, 0xF4], [0xCB, 0xF5], [0xCB, 0xF6], [0xCB, 0xF7],
    [0xCB, 0xF8], [0xCB, 0xF9], [0xCB, 0xFA], [0xCB, 0xFB], [0xCB, 0xFC], [0xCB, 0xFD], [0xCB, 0xFE], [0xCB, 0xFF]] =
   [some (.SET_6_B, []), some (.SET_6_C, []), some (.SET_6_D, []), some (.SET_6_E, []), some (.SET_6_H, []),
    some (.SET_6_L, []), some (.SET_6_mHL, []), some (.SET_6_A, []), some (.SET_7_B, []), some (.SET_7_C, []),
    some (.SET_7_D, []), some (.SET_7_E, []), some (.SET_7_H, []), some (.SET_7_L, []), some (.SET_7_mHL, []),
    some (.SET_7_A, [])] := by decide

theorem test_decode_needs_its_immediate_bytes : reads [] = none ∧ reads [0x06] = none ∧ reads [0x01, 0x34] = none := by decide

/-! ## One step: the vectors of 95_test_vectors.md, section 4

The spec's vector runs on to the next opcode fetch, so its PC is one more than the PC of the step (log 1). -/

/-- The host inputs of the vectors: no key, no request, CLOCK standing still. -/
def quiet : List HostInput := List.replicate 9 { keys := 0, extIrq := 0, elapsed := 0 }

/-- The start state of the vectors with code at 0x0100. -/
def code (bytes : List Byte) : State := { placeBytes bytes 0x0100 State.reset with env := Env.reset 0 quiet }

/-- The state with its registers changed. -/
def withRegs (s : State) (f : Regs → Regs) : State := { s with regs := f s.regs }

/-- One step ends in a next state with this property. -/
def stepGives (s : State) (p : State → Bool) : Bool :=
  match step s with
  | .next t => p t
  | .fault _ => false
  | .refused _ => false

/-- F is these four flags. -/
def flagsAre (s : State) (z n h c : Bool) : Bool :=
  flagZ s.regs.f == z && flagN s.regs.f == n && flagH s.regs.f == h && flagC s.regs.f == c

theorem test_step_V_L8_1 : stepGives
    (withRegs (code [0x41]) fun r => { r with c := 0x13, f := 0xB0 })
    (fun t => t.regs.b == 0x13 && flagsAre t true false true true && t.regs.pc == 0x0101) = true := by decide
theorem test_step_V_L8_2 : stepGives
    (withRegs (code [0x36, 0x77]) fun r => { r with h := 0xC0, l := 0x00 })
    (fun t => read8 t 0xC000 == 0x77 && word t.regs.h t.regs.l == 0xC000 && t.regs.pc == 0x0102) = true := by decide
theorem test_step_V_L8_3 : stepGives
    (withRegs (write8 (code [0x2A]) 0xC0FF 0x99) fun r => { r with h := 0xC0, l := 0xFF })
    (fun t => t.regs.a == 0x99 && word t.regs.h t.regs.l == 0xC100 && flagsAre t true false true true) = true := by decide
theorem test_step_V_L8_4 : stepGives
    (withRegs (code [0x32]) fun r => { r with a := 0x12, h := 0xC0, l := 0x00 })
    (fun t => read8 t 0xC000 == 0x12 && word t.regs.h t.regs.l == 0xBFFF) = true := by decide
theorem test_step_V_L8_5 : stepGives
    (withRegs (code [0x2A]) fun r => { r with h := 0xFF, l := 0xFF })
    (fun t => t.regs.a == 0x00 && word t.regs.h t.regs.l == 0x0000) = true := by decide
theorem test_step_V_L8_6 : stepGives (code [0xF0, 0x0F]) (fun t => t.regs.a == 0xE1) = true := by decide
theorem test_step_V_L8_7 : stepGives
    (withRegs (code [0xE2]) fun r => { r with a := 0x3C, c := 0x80 })
    (fun t => read8 t 0xFF80 == 0x3C) = true := by decide
theorem test_step_V_L8_8 : stepGives
    (write8 (code [0xFA, 0x00, 0xE0]) 0xC000 0x5A)
    (fun t => t.regs.a == 0x5A) = true := by decide
theorem test_step_V_L8_9 : stepGives
    (withRegs (code [0x36, 0xFF]) fun r => { r with h := 0xFF, l := 0x0F })
    (fun t => t.intr.flags == 0x1F && read8 t 0xFF0F == 0xFF) = true := by decide
theorem test_step_V_L8_10 : stepGives
    (withRegs (code [0xEA, 0x00, 0x20]) fun r => { r with a := 0x05 })
    (fun t => read8 t 0x4000 == 0x00) = true := by decide
theorem test_step_V_L8_11 : stepGives
    (withRegs (code [0x0A]) fun r => { r with b := 0xFE, c := 0xA0 })
    (fun t => t.regs.a == 0xFF) = true := by decide
theorem test_step_V_L16_1 : stepGives
    (withRegs (code [0x31, 0x34, 0x12]) fun r => { r with sp := 0xFFFE })
    (fun t => t.regs.sp == 0x1234) = true := by decide
theorem test_step_V_L16_2 : stepGives
    (withRegs (code [0x08, 0x00, 0xC0]) fun r => { r with sp := 0xFFFE })
    (fun t => read8 t 0xC000 == 0xFE && read8 t 0xC001 == 0xFF) = true := by decide
theorem test_step_V_L16_5 : stepGives
    (withRegs (code [0xF8, 0x01]) fun r => { r with sp := 0x00FF })
    (fun t => word t.regs.h t.regs.l == 0x0100 && flagsAre t false false true true) = true := by decide
theorem test_step_V_L16_6 : stepGives
    (withRegs (code [0xF8, 0xFF]) fun r => { r with sp := 0x0000 })
    (fun t => word t.regs.h t.regs.l == 0xFFFF && flagsAre t false false false false) = true := by decide
theorem test_step_V_L16_8 : stepGives
    (withRegs (code [0xF9]) fun r => { r with h := 0xC1, l := 0x23 })
    (fun t => t.regs.sp == 0xC123) = true := by decide
theorem test_step_V_L16_9 : stepGives
    (withRegs (code [0xC5]) fun r => { r with b := 0xBE, c := 0xEF, sp := 0x0001 })
    (fun t => t.regs.sp == 0xFFFF && read8 t 0x0000 == 0x00 && read8 t 0xFFFF == 0xEF) = true := by decide
theorem test_step_V_A8_1 : stepGives
    (withRegs (write8 (code [0x34]) 0xC000 0xFF) fun r => { r with h := 0xC0, l := 0x00, f := 0x10 })
    (fun t => read8 t 0xC000 == 0x00 && flagsAre t true false true true) = true := by decide
theorem test_step_V_A8_2 : stepGives
    (withRegs (code [0x3D]) fun r => { r with a := 0x01, f := 0x00 })
    (fun t => t.regs.a == 0x00 && flagsAre t true true false false) = true := by decide
theorem test_step_V_A8_3 : stepGives
    (withRegs (code [0x05]) fun r => { r with b := 0x10, f := 0x00 })
    (fun t => t.regs.b == 0x0F && flagsAre t false true true false) = true := by decide
theorem test_step_V_A8_7 : stepGives
    (withRegs (code [0xFE, 0x3C]) fun r => { r with a := 0x3C })
    (fun t => t.regs.a == 0x3C && flagsAre t true true false false) = true := by decide
theorem test_step_V_A8_8 : stepGives
    (withRegs (write8 (code [0x96]) 0xC000 0x20) fun r => { r with a := 0x10, h := 0xC0, l := 0x00 })
    (fun t => t.regs.a == 0xF0 && flagsAre t false true false true) = true := by decide
theorem test_step_V_A8_9 : stepGives
    (withRegs (code [0x8F]) fun r => { r with a := 0x80, f := 0x10 })
    (fun t => t.regs.a == 0x01 && flagsAre t false false false true) = true := by decide
theorem test_step_V_A8_10 : stepGives
    (withRegs (code [0x9F]) fun r => { r with a := 0x00, f := 0x10 })
    (fun t => t.regs.a == 0xFF && flagsAre t false true true true) = true := by decide
theorem test_step_V_A8_11 : stepGives
    (withRegs (code [0xAF]) fun r => { r with a := 0x5A, f := 0x70 })
    (fun t => t.regs.a == 0x00 && flagsAre t true false false false) = true := by decide
theorem test_step_V_A16_1 : stepGives
    (withRegs (code [0x29]) fun r => { r with h := 0x8A, l := 0x23, f := 0x80 })
    (fun t => word t.regs.h t.regs.l == 0x1446 && flagsAre t true false true true) = true := by decide
theorem test_step_V_A16_2 : stepGives
    (withRegs (code [0x09]) fun r => { r with h := 0x0F, l := 0xFF, b := 0x00, c := 0x01, f := 0x00 })
    (fun t => word t.regs.h t.regs.l == 0x1000 && flagsAre t false false true false) = true := by decide
theorem test_step_V_A16_3 : stepGives
    (withRegs (code [0xE8, 0x01]) fun r => { r with sp := 0xFFFF, f := 0x80 })
    (fun t => t.regs.sp == 0x0000 && flagsAre t false false true true) = true := by decide
theorem test_step_V_A16_4 : stepGives
    (withRegs (code [0xE8, 0xFF]) fun r => { r with sp := 0x0000 })
    (fun t => t.regs.sp == 0xFFFF && flagsAre t false false false false) = true := by decide
theorem test_step_V_A16_5 : stepGives
    (withRegs (code [0x03]) fun r => { r with b := 0xFF, c := 0xFF, f := 0xB0 })
    (fun t => word t.regs.b t.regs.c == 0x0000 && flagsAre t true false true true) = true := by decide
theorem test_step_V_A16_6 : stepGives
    (withRegs (code [0x1B]) fun r => { r with d := 0x00, e := 0x00, f := 0x00 })
    (fun t => word t.regs.d t.regs.e == 0xFFFF && flagsAre t false false false false) = true := by decide
theorem test_step_V_RSB_1 : stepGives
    (withRegs (code [0x07]) fun r => { r with a := 0x85, f := 0x80 })
    (fun t => t.regs.a == 0x0B && flagsAre t false false false true) = true := by decide
theorem test_step_V_RSB_2 : stepGives
    (withRegs (code [0x17]) fun r => { r with a := 0x80, f := 0x00 })
    (fun t => t.regs.a == 0x00 && flagsAre t false false false true) = true := by decide
theorem test_step_V_RSB_3 : stepGives
    (withRegs (code [0xCB, 0x11]) fun r => { r with c := 0x80, f := 0x00 })
    (fun t => t.regs.c == 0x00 && flagsAre t true false false true) = true := by decide
theorem test_step_V_RSB_4 : stepGives
    (withRegs (write8 (code [0xCB, 0x7E]) 0xC000 0x7F) fun r => { r with h := 0xC0, l := 0x00, f := 0x10 })
    (fun t => read8 t 0xC000 == 0x7F && flagsAre t true false true true) = true := by decide
theorem test_step_V_RSB_5 : stepGives
    (withRegs (write8 (code [0xCB, 0x36]) 0xC000 0xF0) fun r => { r with h := 0xC0, l := 0x00 })
    (fun t => read8 t 0xC000 == 0x0F && flagsAre t false false false false) = true := by decide
theorem test_step_V_RSB_6 : stepGives
    (withRegs (code [0xCB, 0x2F]) fun r => { r with a := 0x81, f := 0x00 })
    (fun t => t.regs.a == 0xC0 && flagsAre t false false false true) = true := by decide
theorem test_step_V_RSB_7 : stepGives
    (withRegs (code [0xCB, 0x3F]) fun r => { r with a := 0x01, f := 0x00 })
    (fun t => t.regs.a == 0x00 && flagsAre t true false false true) = true := by decide
theorem test_step_V_RSB_8 : stepGives
    (withRegs (write8 (code [0xCB, 0xC6]) 0xC000 0x00) fun r => { r with h := 0xC0, l := 0x00, f := 0xF0 })
    (fun t => read8 t 0xC000 == 0x01 && flagsAre t true true true true) = true := by decide
theorem test_step_V_RSB_9 : stepGives
    (withRegs (code [0xCB, 0x87]) fun r => { r with a := 0xFF, f := 0x00 })
    (fun t => t.regs.a == 0xFE && flagsAre t false false false false) = true := by decide
theorem test_step_V_RSB_10 : stepGives
    (withRegs (write8 (code [0xCB, 0x0E]) 0xC000 0x01) fun r => { r with h := 0xC0, l := 0x00, f := 0x00 })
    (fun t => read8 t 0xC000 == 0x80 && flagsAre t false false false true) = true := by decide
theorem test_step_V_RSB_11 : stepGives
    (withRegs (code [0xCB, 0x40]) fun r => { r with b := 0x01, f := 0x10 })
    (fun t => flagsAre t false false true true) = true := by decide
theorem test_step_V_CTL_1 : stepGives
    (withRegs (code [0x20, 0x05]) fun r => { r with f := 0x00 })
    (fun t => t.regs.pc == 0x0107) = true := by decide
theorem test_step_V_CTL_2 : stepGives
    (withRegs (code [0x20, 0x05]) fun r => { r with f := 0x80 })
    (fun t => t.regs.pc == 0x0102) = true := by decide
theorem test_step_V_CTL_3 : stepGives (code [0x18, 0xFE]) (fun t => t.regs.pc == 0x0100) = true := by decide
theorem test_step_V_CTL_4 : stepGives (code [0xC3, 0x00, 0x02]) (fun t => t.regs.pc == 0x0200) = true := by decide
theorem test_step_V_CTL_5 : stepGives
    (withRegs (code [0xE9]) fun r => { r with h := 0x01, l := 0x50 })
    (fun t => t.regs.pc == 0x0150) = true := by decide
theorem test_step_V_CTL_6 : stepGives
    (withRegs (code [0xCD, 0x00, 0x02]) fun r => { r with sp := 0xFFFE })
    (fun t => t.regs.sp == 0xFFFC && read8 t 0xFFFD == 0x01 && read8 t 0xFFFC == 0x03 && t.regs.pc == 0x0200) = true := by decide
theorem test_step_V_CTL_7 : stepGives
    (withRegs (code [0xC4, 0x00, 0x02]) fun r => { r with f := 0x80 })
    (fun t => t.regs.sp == 0xFFFE && t.regs.pc == 0x0103) = true := by decide
theorem test_step_V_CTL_8 : stepGives
    (withRegs (write8 (write8 (code [0xC9]) 0xC000 0x34) 0xC001 0x12) fun r => { r with sp := 0xC000 })
    (fun t => t.regs.sp == 0xC002 && t.regs.pc == 0x1234) = true := by decide
theorem test_step_V_CTL_9 : stepGives
    (withRegs (code [0xC8]) fun r => { r with f := 0x00 })
    (fun t => t.regs.sp == 0xFFFE && t.regs.pc == 0x0101) = true := by decide
theorem test_step_V_CTL_10 : stepGives
    (withRegs (write8 (write8 (code [0xD8]) 0xC000 0x00) 0xC001 0x03) fun r => { r with f := 0x10, sp := 0xC000 })
    (fun t => t.regs.sp == 0xC002 && t.regs.pc == 0x0300) = true := by decide
theorem test_step_V_CTL_11 : stepGives
    (withRegs (code [0xFF]) fun r => { r with sp := 0xFFFE })
    (fun t => t.regs.sp == 0xFFFC && read8 t 0xFFFD == 0x01 && read8 t 0xFFFC == 0x01 && t.regs.pc == 0x0038) = true := by decide
theorem test_step_V_CTL_12 : stepGives
    { (withRegs (write8 (write8 (code [0xD9]) 0xC000 0x00) 0xC001 0x02) fun r => { r with sp := 0xC000 }) with eng := { Engine.reset with ime := .disabled } }
    (fun t => t.regs.sp == 0xC002 && t.regs.pc == 0x0200 && t.eng.ime == .enabled) = true := by decide
theorem test_step_V_SYS_1 : stepGives
    (code [0x00])
    (fun t => t.regs.pc == 0x0101 && flagsAre t true false true true) = true := by decide
theorem test_step_V_SYS_3 : stepGives
    { (code [0x76, 0x00]) with intr := { State.reset.intr with ie := 0x00 }, eng := { Engine.reset with ime := .disabled } }
    (fun t => t.eng.run == .halted && t.regs.pc == 0x0101) = true := by decide
theorem test_step_V_SYS_4 : stepGives
    { (code [0x76, 0x00]) with intr := { State.reset.intr with ie := 0x01, flags := 0x00 }, eng := { Engine.reset with ime := .enabled } }
    (fun t => t.eng.run == .halted && t.regs.pc == 0x0101) = true := by decide
theorem test_step_V_SYS_5 : stepGives
    { (withRegs (code [0x76, 0x3C]) fun r => { r with a := 0x00 }) with intr := { State.reset.intr with ie := 0x04, flags := 0x00 }, eng := { Engine.reset with ime := .disabled } }
    (fun t => t.eng.run == .halted && t.regs.pc == 0x0101) = true := by decide

/-! ## Machine operations: the worked examples of 95_test_vectors.md, section 1, and some of section 3 -/

/-- The state with this controller, four ROM banks whose first bytes are 0xB0 to 0xB3, and 16 KiB of external RAM. -/
def withMbc (m : Mbc) : State :=
  { State.reset with cart :=
    { State.reset.cart with
      rom := [(0, 0xB0), (0x4000, 0xB1), (0x8000, 0xB2), (0xC000, 0xB3)], romBankCount := 4, ramSize := 0x4000, mbc := m } }

theorem test_vector_S2_echo : read8 (write8 State.reset 0xE123 0x5A) 0xC123 = 0x5A ∧
    read8 (write8 State.reset 0xDDFF 0xA5) 0xFDFF = 0xA5 ∧ region 0xFE00 = .oam := by decide

theorem test_vector_S3_mbc1_bank_select :
    [0x00, 0x01, 0x02, 0x03, 0x05, 0x20, 0x1F].map (fun v => read8 (write8 (withMbc (.mbc1 Mbc1.init)) 0x2000 v) 0x4000) =
    [0xB1, 0xB1, 0xB2, 0xB3, 0xB1, 0xB1, 0xB3] := by decide

/-- An MBC3 with a clock started at 0, external RAM enabled and this RAM bank register. -/
def mbc3At (reg : Byte) (now : Nat) : State :=
  { withMbc (.mbc3 { Mbc3.init false 3 (some (Rtc.init 0)) with ramEnabled := true, ramReg := reg }) with env := Env.reset now quiet }

theorem test_vector_S4_rtc_routing :
    [0x08, 0x09, 0x0A, 0x0B, 0x0C].map (fun v => read8 (mbc3At v 93784) 0xA000) = [0x04, 0x03, 0x02, 0x01, 0x00] := by decide

theorem test_vector_S4_ram_clamp :
    [0x00, 0x01, 0x02, 0x03, 0x07, 0x0D, 0xFF].map (fun v => (mbc3At v 0).cart.ramTarget 0) =
    [.ext 0, .ext 0x2000, .ext 0x2000, .ext 0x2000, .ext 0x2000, .ext 0x2000, .ext 0x2000] := by decide

theorem test_vector_S6_halt_and_unhalt :
    [0x08, 0x09, 0x0A, 0x0B, 0x0C].map (((Rtc.init 0).write 259205 0x0C 0x40).write 259205 0x0C 0x00 |>.read 259205) =
    [5, 0, 0, 3, 0] := by decide

theorem test_vector_S7_overflow :
    [0x08, 0x09, 0x0A, 0x0B, 0x0C].map ((Rtc.init 0).read 44236799) = [59, 59, 23, 0xFF, 0x01] ∧
    [0x08, 0x09, 0x0A, 0x0B, 0x0C].map ((Rtc.init 0).read 44236800) = [0, 0, 0, 0, 0x80] ∧
    [0x0B, 0x0C].map (((Rtc.init 0).write 45100800 0x0C 0x00).read 45100800) = [0x0A, 0x00] := by decide

/-- The timer of vector S9 after step 3: TIMA is about to overflow. -/
def aboutToOverflow : State :=
  { State.reset with
    timer := { sys := 0x000C, tima := 0xFF, tma := 0x42, tac := 0b101, signal := true, reloadPending := false }
    intr := { flags := 0, ie := 0 } }

theorem test_vector_S9_overflow : (timerPhase aboutToOverflow).timer.tima = 0x00 ∧
    (timerPhase (timerPhase aboutToOverflow)).timer.tima = 0x42 ∧
    (timerPhase (timerPhase aboutToOverflow)).intr.flags = 0x04 := by decide

theorem test_vector_S10_halt_bug : (bytesRead 0 { code [0x3C] with eng := { Engine.reset with haltBug := true } }).regs.pc = 0x0100 := by
  decide

/-- NOPs with interrupts enabled and VBLANK, TIMER and JOYPAD pending (vector S11). -/
def threePending : State :=
  { State.reset with intr := { flags := 0x15, ie := 0x15 }, eng := { Engine.reset with ime := .enabled } }

theorem test_vector_S11_priority : (dispatchCheck threePending).intr.flags = 0x14 ∧
    (dispatchCheck threePending).regs.pc = 0x0040 ∧ (dispatchCheck threePending).regs.sp = 0xFFFC ∧
    (dispatchCheck threePending).eng.ime = .disabled := by decide

/-- An image of the least length with these bytes at 0x0147 to 0x0149. -/
def image (kind rom ram : Byte) : List Byte := List.replicate 0x0147 0 ++ [kind, rom, ram] ++ List.replicate 6 0

/-- A request to load this image. -/
def request (bytes : List Byte) : LoadRequest :=
  { stream := some bytes, strictSize := false, params := State.reset.params, romFill := [], cartRamInit := [], savedClock := none
    wram := [], vram := [], oam := [], hram := [], sys := 0, now := 0, inputs := [] }

theorem test_vector_S12_load :
    ((loadCart (request (image 0x03 0x00 0x03))).map fun c => (c.hasBattery, c.ramSize, c.ramBankCount, c.romBankCount, c.romMask)) =
      some (true, 32768, 4, 2, 1) ∧
    loadStatus (request (image 0xFE 0x00 0x03)) = .romUnsupportedMbc := by decide +kernel

theorem test_vector_MBC2_1_cells :
    let s := write8 (withMbc (.mbc2 { Mbc2.init [] with ramEnabled := true })) 0xA000 0xAB
    read8 s 0xA000 = 0xFB ∧ read8 s 0xA200 = 0xFB := by decide

theorem test_vector_EXC_2_illegal_opcode :
    (match step (code [0xD3]) with
      | .fault (.illegalOpcode op addr t) => op == 0xD3 && addr == 0x0100 && t.regs.pc == 0x0101 && t.timer.sys == 0 && t.eng.queue == []
      | .next _ => false
      | .refused _ => false) = true := by decide

/-- An input that presses these keys and raises these requests. -/
def pressing (keys : BitVec 8) (extIrq : BitVec 5) : HostInput := { keys := keys, extIrq := extIrq, elapsed := 0 }

/-- The state with code whose bus cycles have these inputs, from the first one on, with IF clear. -/
def underInputs (bytes : List Byte) (inputs : List HostInput) : State :=
  { code bytes with env := Env.reset 0 inputs, intr := { flags := 0, ie := 0 } }

/-- A bus cycle ends in a next state with this property. -/
def endsIn (o : Host.Outcome State Fault Refusal) (p : State → Bool) : Bool :=
  match o with
  | .next t => p t
  | .fault _ => false
  | .refused _ => false

theorem test_vector_EXC_1_requests_in_step_1 :
    endsIn (closeCycle (underInputs [0x18, 0xFE] [pressing 0 0x0F])) (fun t => t.intr.flags == 0x0B) = true := by decide

/-- The start state of V-EXC-3: the button group selected, key 4 in the bus cycles 1 and 2, key 0 in bus cycle 3. -/
def exc3 : State := { underInputs [0, 0, 0] [pressing 0x10 0, pressing 0x10 0, pressing 0x01 0] with joy := { Joypad.reset with sel := 0x10 } }

theorem test_vector_EXC_3_joypad_edge :
    endsIn (closeCycle exc3) (fun t => t.intr.flags == 0x10) = true ∧
    endsIn (busCycles 1 (closeCycle exc3)) (fun t => t.intr.flags == 0x10 && read8 t 0xFF00 == 0xDE &&
      endsIn (busCycle { t with intr := { t.intr with flags := 0 } }) (fun u => u.intr.flags == 0)) = true := by decide

/-! ## The free values: what a test may not depend on

With no listed input left, IF after a step is not determined: the next theorem holds whatever `Config.freeInput` is. -/

theorem test_free_input_reaches_no_register : stepGives State.reset (fun t => t.regs.pc == 0x0101 && t.regs.a == 0x01) = true := by decide

/-! ## Witnesses: for each obligation with hypotheses, a state and operands that meet them, clause by clause -/

/-- The reset state in CGB mode. -/
def cgb : State := { State.reset with params := { State.reset.params with cgb := true } }

/-- BC, DE and HL point to VBK, A selects bank 1. -/
def atVbk (s : State) : State := withRegs s fun r => { r with a := 1, b := 0xFF, c := 0x4F, d := 0xFF, e := 0x4F, h := 0xFF, l := 0x4F }

/-- The state with this F. -/
def withF (f : Byte) : State := withRegs State.reset fun r => { r with f := f }

theorem witness_LoadRegister : State.reset.vbkRefused = false := by decide
theorem witness_LoadFromMemory : State.reset.vbkRefused = false ∧ steady State.reset 0xC000 = true := by decide
theorem witness_StoreToMemory : (atVbk cgb).vbkRefused = false ∧ selectsVramBank1 (atVbk cgb).params.cgb 0xFF4F (atVbk cgb).regs.a = true ∧
    State.reset.vbkRefused = false ∧ selectsVramBank1 State.reset.params.cgb 0xFF4F 1 = false ∧
    cellAt State.reset 0xC000 = some (.wram 0) ∧ steady State.reset 0xC000 = true ∧ steady State.reset 0xC001 = true ∧
    reaches State.reset 0xC000 0xC001 = false := by decide
theorem witness_LoadStoreHlStep : (atVbk cgb).vbkRefused = false ∧ word (atVbk cgb).regs.h (atVbk cgb).regs.l = 0xFF4F ∧
    selectsVramBank1 cgb.params.cgb 0xFF4F (atVbk cgb).regs.a = true ∧ selectsVramBank1 cgb.params.cgb 0xFF4F 2 = false := by decide
theorem witness_LdPairImm : State.reset.vbkRefused = false := by decide
theorem witness_StoreSp : State.reset.vbkRefused = false ∧
    selectsVramBank1 true 0xFF4F (lowByte 0x0001) = true ∧ selectsVramBank1 true (0xFF4E + 1) (highByte 0x0100) = true ∧
    (selectsVramBank1 false 0xFF4F (lowByte 0x0001) || selectsVramBank1 false (0xFF4F + 1) (highByte 0x0001)) = false := by decide
theorem witness_SpOffsetForms : State.reset.vbkRefused = false := by decide
theorem witness_PushPair : cgb.vbkRefused = false ∧ selectsVramBank1 true (0xFF50 - 1) (highByte 0x0100) = true ∧
    selectsVramBank1 true (0xFF51 - 2) (lowByte 0x0001) = true ∧
    (selectsVramBank1 cgb.params.cgb (cgb.regs.sp - 1) 0xFF || selectsVramBank1 cgb.params.cgb (cgb.regs.sp - 2) 0xFF) = false ∧
    cellAt cgb (cgb.regs.sp - 1) = some (.hram 125) ∧ cellAt cgb (cgb.regs.sp - 2) = some (.hram 124) ∧
    reaches cgb (cgb.regs.sp - 2) (cgb.regs.sp - 1) = false := by decide
theorem witness_PopPair : State.reset.vbkRefused = false := by decide
theorem witness_AluReg : State.reset.vbkRefused = false := by decide
theorem witness_AluMemoryAndImmediate : State.reset.vbkRefused = false := by decide
theorem witness_IncDecReg : State.reset.vbkRefused = false := by decide
theorem witness_IncDecMem : (atVbk cgb).vbkRefused = false ∧ selectsVramBank1 cgb.params.cgb 0xFF4F 0x10 = false ∧
    selectsVramBank1 cgb.params.cgb 0xFF4F 0x11 = true ∧ selectsVramBank1 State.reset.params.cgb 0xC000 0x11 = false := by decide
theorem witness_AccumulatorOps : State.reset.vbkRefused = false := by decide
theorem witness_DaaAfterBcdAddition : 0 < 100 ∧ 99 < 100 ∧ (daa8 (alu .add 0x99 0x99 0).1 (alu .add 0x99 0x99 0).2).1 = 0x98 := by decide
theorem witness_PairArithmetic : State.reset.vbkRefused = false := by decide
theorem witness_RotateRegister : State.reset.vbkRefused = false := by decide
theorem witness_RotateMemory : (atVbk cgb).vbkRefused = false ∧ selectsVramBank1 cgb.params.cgb 0xFF4F 0x01 = true ∧
    selectsVramBank1 cgb.params.cgb 0xFF4F 0x02 = false := by decide
theorem witness_BitRegister : State.reset.vbkRefused = false := by decide
theorem witness_BitMemory : (atVbk cgb).vbkRefused = false ∧ selectsVramBank1 cgb.params.cgb 0xFF4F 0x81 = true ∧
    selectsVramBank1 cgb.params.cgb 0xFF4F 0x80 = false := by decide
theorem witness_JumpsSetPc : State.reset.vbkRefused = false ∧ flagZ (withF 0x00).regs.f = false ∧ flagZ (withF 0x80).regs.f = true ∧
    flagC (withF 0x00).regs.f = false ∧ flagC (withF 0x10).regs.f = true := by decide
theorem witness_CallsPushReturnAddress : State.reset.vbkRefused = false ∧
    [Cond.nz, .z, .nc, .c].map (condHolds · 0x00) = [true, false, true, false] ∧
    [Cond.nz, .z, .nc, .c].map (condHolds · 0x90) = [false, true, false, true] ∧
    selectsVramBank1 true (0xFF50 - 1) (highByte 0x0100) = true := by decide
theorem witness_ReturnsPopPc : State.reset.vbkRefused = false ∧ condHolds .z 0x80 = true ∧ condHolds .z 0x00 = false := by decide
theorem witness_NopDiEi : State.reset.vbkRefused = false ∧ (tick State.reset).eng.ime = .disabled := by decide

/-- No input left, so that the interrupt flags do not depend on a free value. -/
def quietState (cgb : Bool) (ie : Byte) : State :=
  { State.reset with env := Env.reset 0 quiet, intr := { flags := 0x04, ie := ie }, params := { State.reset.params with cgb := cgb } }

/-- The pending set in the bus cycle of a HALT that follows. -/
def pendingNext (s : State) : BitVec 5 := (tick s).intr.flags &&& (tick s).intr.ie.setWidth 5

theorem witness_HaltEntersHalted : (quietState false 0x04).vbkRefused = false ∧ pendingNext (quietState false 0x00) = 0 ∧
    (tick (quietState false 0x04)).eng.ime ≠ .enabled ∧ pendingNext (quietState false 0x04) ≠ 0 ∧
    (quietState true 0x04).params.cgb = true ∧ pendingNext (quietState true 0x04) ≠ 0 := by decide
theorem witness_StopEntersStopped : State.reset.vbkRefused = false ∧ State.reset.params.stopLength = .one ∧
    ({ cgb := false, stopLength := .two } : Params).stopLength = .two := by decide
theorem witness_PrefixByteRunsCb : State.reset.vbkRefused = false ∧ State.reset.params.cgb = false ∧ cgb.vbkRefused = false ∧
    word cgb.regs.h cgb.regs.l ≠ 0xFF4F := by decide
theorem witness_IllegalOpcodesFault : Instr.illegal_0xFD.illegalOpcode = some 0xFD := by decide
theorem witness_TakeInterrupt : State.reset.eng.ime ≠ .enabled ∧ threePending.eng.ime = .enabled ∧
    [0, 1, 2, 3, 4].map (fun j => threePending.intr.flags.getLsbD j && threePending.intr.ie.getLsbD j) =
      [true, false, true, false, true] ∧
    [0x01, 0x02, 0x04, 0x08, 0x10].map (fun f => (dispatchCheck { threePending with intr := { flags := f, ie := 0xFF } }).regs.pc) =
      [0x0040, 0x0048, 0x0050, 0x0058, 0x0060] := by decide
theorem witness_EiDelay : State.reset.vbkRefused = false ∧ State.reset.eng.ime = .disabled := by decide

/-- A CPU in this run state. -/
def inRun (r : RunState) : State := { quietState false 0x04 with eng := { Engine.reset with run := r } }

theorem witness_HaltedAndStopped : (inRun .halted).eng.fault = none ∧ (inRun .halted).vbkRefused = false ∧
    (inRun .halted).eng.run = .halted ∧ (inRun .stopped).eng.fault = none ∧ (inRun .stopped).vbkRefused = false ∧
    (inRun .stopped).eng.run = .stopped ∧ pendingNext (inRun .halted) ≠ 0 := by decide
theorem witness_TimaReload : (timerPhase aboutToOverflow).timer.reloadPending = true := by decide
theorem witness_DivRegister : (0xFF05 : Word) ≠ 0xFF04 := by decide
theorem witness_TimerRate :
    let s := { aboutToOverflow with timer := { aboutToOverflow.timer with tima := 0xF0 } }
    s.timer.tac.getLsbD 2 = true ∧ s.timer.signal = s.timer.level ∧ s.timer.reloadPending = false ∧ s.timer.tima.toNat + 15 < 256 := by
  decide
theorem witness_JoypadAndRequests : State.reset.joy.sel &&& 0xCF = 0 ∧ ((0x30 : Byte) &&& 0xCF) = 0 := by decide
theorem witness_OamDma : (write8 State.reset 0xFF46 0xC1).dma.active = true ∧ (write8 State.reset 0xFF46 0xC1).dma.started = false ∧
    (dmaPhase (write8 State.reset 0xFF46 0xC1)).dma.started = true ∧
    (∀ i : Fin 160, steady (write8 State.reset 0xFF46 0xC1) (word 0xC1 0 + BitVec.ofNat 16 i.val) = true) := by
  decide +kernel
theorem witness_MemoryMap :
    [0x8000, 0x9FFF, 0xC000, 0xDFFF].map (cellAt State.reset) =
      [some (.vram 0), some (.vram 0x1FFF), some (.wram 0), some (.wram 0x1FFF)] ∧
    [0xC000, 0xCFFF, 0xD000, 0xDFFF].map (cellAt cgb) = [some (.wram 0), some (.wram 0xFFF), some (.wram 0x1000), some (.wram 0x1FFF)] ∧
    [0xE000, 0xFDFF, 0xFE00, 0xFE9F].map (cellAt State.reset) = [some (.wram 0), some (.wram 0x1DFF), some (.oam 0), some (.oam 159)] ∧
    [0xFEA0, 0xFEFF].map (read8 State.reset) = [0xFF, 0xFF] ∧
    [0xFF80, 0xFFFE, 0xFFFF].map (cellAt State.reset) = [some (.hram 0), some (.hram 126), some .ie] ∧
    steady State.reset 0x8001 = true ∧ reaches State.reset 0x8000 0x8001 = false := by decide
theorem witness_IoRegisters : cgb.params.cgb = true ∧ (0x01 : Byte).getLsbD 0 = true ∧ (0xFF01 : Word).toNat < 0xFF80 ∧
    [ioReg true 0xFF00, ioReg true 0xFF01, ioReg true 0xFF4F, ioReg true 0xFF70, ioReg false 0xFF70, ioReg true 0xFF7F] =
      [.p1, .collaborator, .vbk, .svbk, .collaborator, .collaborator] := by decide

/-- The registers of an MBC1 after a write. -/
def mbc1After (a : Word) (v : Byte) : Mbc := (write8 (withMbc (.mbc1 Mbc1.init)) a v).cart.mbc

theorem witness_Mbc1Registers : (withMbc (.mbc1 Mbc1.init)).cart.mbc = .mbc1 Mbc1.init ∧
    mbc1After 0x1FFF 0x1A = .mbc1 { Mbc1.init with ramEnabled := true } ∧
    mbc1After 0x2000 0x1F = .mbc1 { Mbc1.init with romReg := 0x1F } ∧ mbc1After 0x3FFF 0xE0 = .mbc1 { Mbc1.init with romReg := 1 } ∧
    mbc1After 0x4000 0xFF = .mbc1 { Mbc1.init with ramReg := 3 } ∧ mbc1After 0x5FFF 0x04 = .mbc1 Mbc1.init ∧
    mbc1After 0x6000 0x01 = .mbc1 { Mbc1.init with mode := true } ∧ mbc1After 0x7FFF 0x02 = .mbc1 Mbc1.init ∧
    read8 (withMbc (.mbc1 Mbc1.init)) 0x0000 = 0xB0 ∧ read8 (withMbc (.mbc1 Mbc1.init)) 0xBFFF = 0xFF ∧
    read8 (withMbc (.mbc1 { Mbc1.init with ramEnabled := true, mode := true, ramReg := 3 })) 0xBFFF = 0x00 := by decide

/-- The registers of an MBC2 after a write. -/
def mbc2After (a : Word) (v : Byte) : Mbc := (write8 (withMbc (.mbc2 (Mbc2.init []))) a v).cart.mbc

theorem witness_Mbc2Registers : (withMbc (.mbc2 (Mbc2.init []))).cart.mbc = .mbc2 (Mbc2.init []) ∧
    mbc2After 0x3EFF 0x0A = .mbc2 { Mbc2.init [] with ramEnabled := true } ∧
    mbc2After 0x3FFF 0x13 = .mbc2 { Mbc2.init [] with romReg := 3 } ∧ mbc2After 0x0100 0x00 = .mbc2 (Mbc2.init []) ∧
    mbc2After 0x4000 0xFF = .mbc2 (Mbc2.init []) ∧ mbc2After 0x7FFF 0xFF = .mbc2 (Mbc2.init []) ∧
    read8 (withMbc (.mbc2 (Mbc2.init []))) 0xA000 = 0xFF ∧
    read8 (withMbc (.mbc2 { Mbc2.init [(511, 0x05)] with ramEnabled := true })) 0xBFFF = 0xF5 := by decide

/-- The registers of an MBC3 with a clock after a write. -/
def mbc3After (a : Word) (v : Byte) : Mbc := (write8 (mbc3At 0x08 0) a v).cart.mbc

/-- Those registers before it. -/
def mbc3Start : Mbc3 := { Mbc3.init false 3 (some (Rtc.init 0)) with ramEnabled := true, ramReg := 0x08 }

theorem witness_Mbc3Registers : (mbc3At 0x08 0).cart.mbc = .mbc3 mbc3Start ∧
    mbc3After 0x1FFF 0x00 = .mbc3 { mbc3Start with ramEnabled := false } ∧
    mbc3After 0x2000 0x00 = .mbc3 mbc3Start ∧ mbc3After 0x3FFF 0x82 = .mbc3 { mbc3Start with romReg := 2, romBank := 2 } ∧
    mbc3After 0x4000 0xFF = .mbc3 { mbc3Start with ramReg := 0xFF } ∧ mbc3After 0x5FFF 0x07 = .mbc3 { mbc3Start with ramReg := 7 } ∧
    mbc3After 0x6000 0x00 = .mbc3 { mbc3Start with latchArmed := true } ∧ mbc3After 0x7FFF 0x01 = .mbc3 mbc3Start ∧
    (write8 (write8 (mbc3At 0x08 7) 0x6000 0x00) 0x6000 0x01).cart.mbc.clock = some { Rtc.init 0 with latchTimestamp := some 7 } ∧
    read8 (mbc3At 0x08 7) 0xBFFF = 7 ∧ read8 (mbc3At 0x07 7) 0xBFFF = 0 ∧ read8 (mbc3At 0x0D 7) 0xA000 = 0 ∧
    read8 (withMbc (.mbc3 { Mbc3.init false 3 none with ramEnabled := true, ramReg := 0x0C })) 0xA000 = 0xFF ∧
    read8 (withMbc (.mbc3 (Mbc3.init false 3 none))) 0xA000 = 0xFF := by decide

/-- The registers of an MBC5 after a write. -/
def mbc5After (a : Word) (v : Byte) : Mbc := (write8 (withMbc (.mbc5 Mbc5.init)) a v).cart.mbc

theorem witness_Mbc5AndNone : (withMbc (.mbc5 Mbc5.init)).cart.mbc = .mbc5 Mbc5.init ∧
    mbc5After 0x1FFF 0x0A = .mbc5 { Mbc5.init with ramEnabled := true } ∧ mbc5After 0x2000 0x00 = .mbc5 { Mbc5.init with romReg := 0 } ∧
    mbc5After 0x2FFF 0xFF = .mbc5 { Mbc5.init with romReg := 0xFF } ∧ mbc5After 0x3000 0x01 = .mbc5 { Mbc5.init with romReg := 0x101 } ∧
    mbc5After 0x3FFF 0x02 = .mbc5 Mbc5.init ∧ mbc5After 0x4000 0x1F = .mbc5 { Mbc5.init with ramReg := 15 } ∧
    mbc5After 0x5FFF 0x10 = .mbc5 Mbc5.init ∧ mbc5After 0x6000 0xFF = .mbc5 Mbc5.init ∧ mbc5After 0x7FFF 0xFF = .mbc5 Mbc5.init ∧
    read8 (withMbc (.mbc5 Mbc5.init)) 0xA000 = 0xFF ∧ read8 (withMbc (.mbc5 { Mbc5.init with ramEnabled := true })) 0xBFFF = 0x00 ∧
    (withMbc .none).cart.mbc = .none ∧ read8 (withMbc .none) 0x4000 = 0xB1 ∧ read8 (withMbc .none) 0xA000 = 0x00 ∧
    read8 State.reset 0xA000 = 0xFF := by decide
theorem witness_RomAndConfiguration : stepGives State.reset (fun t => t.cart.romBankCount == 2) = true ∧ (0x7FFF : Word).toNat < 0x8000 := by
  decide

/-- A clock started at 0. -/
def clock (halted : Bool) : Rtc := { Rtc.init 0 with halted := halted }

theorem witness_RtcNormalise : (clock true).halted = true ∧ (clock false).halted = false ∧
    (clock false).current (44236799 : Nat) / 86400 < 512 ∧ 512 ≤ (clock false).current (44236800 : Nat) / 86400 ∧
    ((clock false).normalise 44236800).timestampOffset = -44236800 ∧ ((clock false).normalise 44236800).overflow = true := by decide
theorem witness_RtcRead : (clock false).read 44236799 0x0B = 0xFF ∧ (clock false).read 44236799 0x0C = 0x01 ∧
    (clock true).read 44236799 0x0C = 0x40 := by decide
theorem witness_RtcWriteTime : ((clock false).normalise 7).halted = false ∧ ((clock true).normalise 7).halted = true ∧
    (clock true).write 7 0x08 0x7F = { clock true with snapS := 63 } ∧ ((clock false).write 7 0x0B 0xFF).daysNow 7 = 0xFF := by decide
theorem witness_RtcHaltAndLatch : (clock false).halted = false ∧ (0x00 : Byte).getLsbD 7 = ((clock false).normalise 7).overflow ∧
    (0x00 : Byte).getLsbD 6 = false ∧ (0x00 : Byte).getLsbD 0 = (((clock false).normalise 7).daysNow 7).getLsbD 8 ∧
    (0x40 : Byte).getLsbD 6 = true := by decide

theorem witness_LoadStatusOrder_too_big : 4194304 < (List.replicate 4194305 (0 : Byte)).length := by
  rw [List.length_replicate]; decide
theorem witness_LoadStatusOrder : (image 0x00 0x00 0x00).length = 0x0150 ∧ ((image 0x00 0x00 0x00).drop 1).length < 0x0150 ∧
    loadStatus { request [] with stream := none } = .romFileNotReadable ∧
    loadStatus (request ((image 0x00 0x00 0x00).drop 1)) = .romParseError ∧
    loadStatus (request (image 0x00 0x08 0x00)) = .romParseError ∧
    loadStatus { request (image 0x00 0x07 0x00) with strictSize := true } = .romSizeMismatch ∧
    loadStatus (request (image 0x04 0x00 0x00)) = .romUnsupportedMbc ∧
    loadStatus (request (image 0x1E 0x00 0x06)) = .ramSizeUnsupported ∧ loadStatus (request (image 0x1E 0x00 0x05)) = .loaded := by
  decide +kernel
theorem witness_ResetState :
    [image 0x00 0x00 0x00, image 0x03 0x00 0x03, image 0x06 0x00 0x05, image 0x10 0x00 0x00, image 0x1E 0x00 0x05].map
      (fun x => (load (request x)).2.isSome) = [true, true, true, true, true] ∧
    { request (image 0x00 0x00 0x00) with inputs := pressing 0x10 0x0F :: quiet }.inputs = pressing 0x10 0x0F :: quiet := by decide +kernel
theorem witness_DecodeEncode : Instr.SET_7_A.isWhole = true ∧ reads [0x01, 0x34, 0x12] = some (.LD_BC_nn 0x1234, []) := by decide
theorem witness_StepRunsDecoded : State.reset.eng.fault = none ∧ State.reset.vbkRefused = false ∧ State.reset.eng.run = .running ∧
    (dispatchCheck State.reset).vbkRefused = false ∧ Instr.NOP.isWhole = true ∧
    reads [fetchedByte 0 State.reset, fetchedByte 1 State.reset, fetchedByte 2 State.reset] = some (.NOP, [0, 0]) ∧
    ({ Engine.reset with fault := some (0xD3, 0x0100) } : Engine).fault = some (0xD3, 0x0100) ∧
    (dispatchCheck { withRegs threePending (fun r => { r with sp := 0xFF50 }) with params := cgb.params }).vbkRefused = true := by decide
theorem witness_CodeBytes : (∀ k : Fin 3, steady State.reset (State.reset.regs.pc + BitVec.ofNat 16 k.val) = true) ∧
    steady State.reset 0xC000 = true := by decide
theorem witness_CycleCounts : Instr.NOP.wellFormed = true ∧
    (match exec .NOP State.reset with
      | .next t => t.env.cycle == 1
      | .fault _ => false
      | .refused _ => false) = true := by decide
theorem witness_StepKeepsOk : (quietState true 0x04).ok = true ∧ stepGives (quietState true 0x04) (fun t => t.ok) = true := by decide
theorem witness_StepIsBusCycles : State.reset.ok = true ∧ stepGives State.reset (fun t => t.env.cycle == 1) = true ∧ (code [0xD3]).ok = true ∧
    (match step (code [0xD3]) with
      | .fault _ => true
      | .next _ => false
      | .refused _ => false) = true ∧
    (match step (atVbk { code [0x77] with params := cgb.params }) with
      | .refused _ => true
      | .next _ => false
      | .fault _ => false) = true := by decide


end Tests

end Sys2Proof
end

section
/-! What every step keeps: the shape of a proof that a step keeps a property, once for all properties, and the three statements about
the state that use it (R52, R65, R68, R69). -/

namespace Sys2Proof.Machine

/-! ## Properties that every part of a step keeps -/

/-- Every part a step is made of keeps `P`: time, a micro-op, the dispatch check, the fetch, an immediate read, and what the step does
to the engine beside them (filling latches, setting the queue, waking). -/
structure StepInvariant (P : State → Prop) : Prop where
  tick : ∀ {s}, P s → P (tick s)
  micro : ∀ {s} op, P s → P (micro op s)
  dispatchCheck : ∀ {s}, P s → P (dispatchCheck s)
  fetchOpcode : ∀ {s}, P s → P (fetchOpcode s)
  immRead : ∀ {s}, P s → P (immRead s)
  engine : ∀ {s} e, P s → P { s with eng := e }

/-- An illegal opcode has the fault of R370 as its meaning. -/
theorem exec_illegal {i : Instr} {op : Byte} (h : i.illegalOpcode = some op) (s : State) : exec i s = illegal op s := by
  unfold Instr.illegalOpcode at h
  split at h <;> cases h <;> rfl

/-- The only row that is no whole instruction is the byte 0xCB alone (R321). -/
theorem Instr.eq_PREFIX_CB_of_not_isWhole {i : Instr} (h : i.isWhole = false) : i = .PREFIX_CB := by
  unfold Instr.isWhole at h
  split at h
  · rfl
  · cases h

/-- Only a well-formed instruction, which runs the rest of its micro-ops, and the byte 0xCB alone can have a next state (R328, R367,
R370). -/
theorem exec_next {i : Instr} {s t : State} (h : exec i s = .next t) :
    (i.wellFormed = true ∧ t.vbkRefused = false ∧
      t = runRest ((microops i).drop (microopsDone i)) (withQueue (latchImmediates i s) (microops i) (microopsDone i))) ∨
    runPrefix s = .next t := by
  cases hw : i.wellFormed with
  | true =>
    rw [exec_eq_runFrom hw] at h
    obtain ⟨ht, hv⟩ := finish_eq_next h
    exact .inl ⟨rfl, ht ▸ hv, ht⟩
  | false =>
    cases hi : i.illegalOpcode with
    | some op =>
      rw [exec_illegal hi] at h
      exact nomatch h
    | none =>
      have hi' : i = .PREFIX_CB :=
        Instr.eq_PREFIX_CB_of_not_isWhole (by simpa [Instr.wellFormed, Instr.isLegal, hi] using hw)
      subst hi'
      exact .inr h

/-- The latches that the bytes of an instruction fill are a part of the engine. -/
theorem latchImmediates_eq (i : Instr) (s : State) :
    latchImmediates i s = { s with eng := { s.eng with ctx := (latchImmediates i s).eng.ctx } } := by
  unfold latchImmediates; split <;> rfl

/-- The step of a running CPU answers a next state only by executing an instruction (R365). -/
theorem runStep_next {s t : State} (h : runStep s = .next t) :
    ∃ i n, exec i (bytesRead n (dispatchCheck s)) = .next t := by
  simp only [runStep] at h
  split at h
  · cases h
  · unfold runFetched at h
    split at h
    · exact ⟨_, _, h⟩
    · exact ⟨_, _, h⟩
    · exact ⟨_, _, h⟩
    · exact ⟨_, _, h⟩

/-- A step is a bus cycle without the CPU, with a wake of the halted CPU, or an instruction executed after the dispatch check and the
reading of its bytes (R365). -/
theorem step_next {s t : State} (h : step s = .next t) :
    s.vbkRefused = false ∧ s.eng.fault = none ∧
    ((s.eng.run = .halted ∧ t = haltedStep s) ∨ (s.eng.run = .stopped ∧ t = tick s) ∨
      (s.eng.run = .running ∧ ∃ i n, exec i (bytesRead n (dispatchCheck s)) = .next t)) := by
  unfold step at h
  split at h
  · cases h
  · next hf =>
    split at h
    · cases h
    · next hv =>
      refine ⟨by simpa using hv, hf, ?_⟩
      split at h
      · next hr => exact .inr (.inr ⟨hr, runStep_next h⟩)
      · next hr => exact .inl ⟨hr, (Host.Outcome.next.inj h).symm⟩
      · next hr => exact .inr (.inl ⟨hr, (Host.Outcome.next.inj h).symm⟩)

namespace StepInvariant

variable {P : State → Prop} (h : StepInvariant P)
include h

theorem runMicro {s : State} (m : Micro) (hs : P s) : P (runMicro m s) := by
  unfold Sys2Proof.Machine.runMicro
  split
  · exact h.engine _ (h.micro m.op hs)
  · exact h.engine _ hs

theorem runRest {s : State} (ops : List Micro) (hs : P s) : P (runRest ops s) := by
  induction ops generalizing s with
  | nil => exact hs
  | cons m rest ih =>
    have hm := h.runMicro m (h.tick hs)
    unfold Sys2Proof.Machine.runRest
    split
    · exact ih hm
    · exact hm

theorem bytesRead {s : State} (n : Nat) (hs : P s) : P (bytesRead n s) := by
  induction n with
  | zero => exact h.fetchOpcode hs
  | succ n ih => exact h.immRead (h.tick ih)

theorem exec {i : Instr} {s t : State} (hs : P s) (ht : exec i s = .next t) : P t := by
  rcases exec_next ht with ⟨-, -, rfl⟩ | ht
  · refine h.runRest _ (h.engine _ ?_)
    rw [latchImmediates_eq]
    exact h.engine _ hs
  · obtain ⟨rfl, -⟩ := finish_eq_next ht
    exact h.runRest _ (h.runRest _ (h.engine _ hs))

/-- A property that every part of a step keeps is kept by every step. -/
theorem step {s t : State} (hs : P s) (ht : step s = .next t) : P t := by
  obtain ⟨-, -, ⟨-, rfl⟩ | ⟨-, rfl⟩ | ⟨-, i, n, ht⟩⟩ := step_next ht
  · exact h.engine _ (h.tick hs)
  · exact h.tick hs
  · exact h.exec (h.bytesRead n (h.dispatchCheck hs)) ht

end StepInvariant

/-! ## Properties of memory and the devices -/

/-- A property of memory, the cartridge and the devices beside the CPU, which the three memory primitives keep: it says nothing of the
register file, the engine, IF and IE, the host's side and the refusal latch. -/
structure DeviceInvariant (P : State → Prop) : Prop where
  frame : ∀ {s} r e i n b, P s → P { s with regs := r, eng := e, intr := i, env := n, vbkRefused := b }
  tick : ∀ {s}, P s → P (tick s)
  afterRead : ∀ {s} a, P s → P (afterRead s a)
  write8 : ∀ {s} a v, P s → P (write8 s a v)

namespace DeviceInvariant

variable {P : State → Prop} (h : DeviceInvariant P)
include h

theorem cpu {s : State} (r : Regs) (e : Engine) (hs : P s) : P { s with regs := r, eng := e } := h.frame r e _ _ _ hs

theorem memRead {s : State} (a : Word) (hs : P s) : P (memRead s a) := h.frame _ _ _ _ _ (h.afterRead a hs)

theorem memWrite {s : State} (a : Word) (v : Byte) (hs : P s) : P (memWrite s a v) := h.write8 a v (h.frame _ _ _ _ _ hs)

theorem pushByte {s : State} (v : Byte) (hs : P s) : P (pushByte s v) := h.memWrite _ v (h.cpu _ _ hs)

theorem loadTmp {s : State} (a : Word) (hs : P s) : P (loadTmp s a) := h.cpu _ _ (h.memRead a hs)

theorem popByte {s : State} (hs : P s) : P (popByte s) := h.cpu _ _ (h.memRead _ hs)

theorem immRead {s : State} (hs : P s) : P (immRead s) := h.cpu _ _ (h.memRead _ hs)

theorem dispatchCheck {s : State} (hs : P s) : P (dispatchCheck s) := by
  unfold Sys2Proof.Machine.dispatchCheck
  split
  · exact h.cpu _ _ (h.pushByte _ (h.pushByte _ (h.frame (s := s) _ _ _ _ _ hs)))
  · exact hs

/-- A micro-op makes at most one bus access, and what else it does is within the CPU (R124). -/
theorem micro {s : State} (op : MicroOp) (hs : P s) : P (micro op s) := by
  cases op with
  | imm | prefixCB => exact h.cpu _ _ (h.immRead hs)
  | load => exact h.loadTmp _ hs
  | loadHlInc | loadHlDec => exact h.cpu _ _ (h.loadTmp _ hs)
  | popLsb | popMsb => exact h.cpu _ _ (h.popByte hs)
  | store | storeSpLow | storeSpHigh | resMem | setMem => exact h.memWrite _ _ hs
  | storeHlInc | storeHlDec => exact h.cpu _ _ (h.memWrite _ _ hs)
  | pushHigh | pushLow | pushPcHigh | pushPcLow | incMem | decMem | rotMem => exact h.memWrite _ _ (h.cpu _ _ hs)
  | stop =>
    show P (stopCpu s)
    unfold stopCpu
    split
    · exact h.cpu _ _ hs
    · exact h.cpu _ _ (h.immRead hs)
  | jumpNnEnable => exact h.cpu _ _ (h.cpu _ _ hs)
  | _ => exact h.cpu _ _ hs

theorem stepInvariant : StepInvariant P where
  tick := h.tick
  micro := h.micro
  dispatchCheck := h.dispatchCheck
  fetchOpcode hs := h.cpu _ _ (h.memRead _ hs)
  immRead := h.immRead
  engine _ hs := h.cpu _ _ hs

end DeviceInvariant

end Sys2Proof.Machine
end


section
/-! What loading fixed, and that no step changes it (R68, R127, R203, R210). -/

namespace Sys2Proof.Machine

/-! ## What loading fixed -/

/-- The kind of the controller (R209). -/
def Mbc.variant : Mbc → Variant
  | .none => .none
  | .mbc1 _ => .mbc1
  | .mbc2 _ => .mbc2
  | .mbc3 _ => .mbc3
  | .mbc5 _ => .mbc5

/-- The controller is an MBC30 (R210). -/
def Mbc.wide : Mbc → Bool
  | .mbc3 m => m.wide
  | .none => false
  | .mbc1 _ => false
  | .mbc2 _ => false
  | .mbc5 _ => false

/-- What loading fixed of a cartridge (R68, R203, R205, R208, R210). -/
structure CartConfig where
  rom : Memory
  romBankCount : Nat
  ramSize : Nat
  hasBattery : Bool
  variant : Variant
  wide : Bool
  clock : Bool

/-- What loading fixed of this cartridge. -/
def Cart.config (c : Cart) : CartConfig :=
  { rom := c.rom, romBankCount := c.romBankCount, ramSize := c.ramSize, hasBattery := c.hasBattery,
    variant := c.mbc.variant, wide := c.mbc.wide, clock := c.mbc.clock.isSome }

@[simp] theorem Cart.config_mapClock (c : Cart) (f : Rtc → Rtc) :
    ({ c with mbc := c.mbc.mapClock f } : Cart).config = c.config := by
  obtain ⟨rom, ram, banks, size, battery, mbc⟩ := c
  cases mbc <;> simp [Cart.config, Mbc.mapClock, Mbc.variant, Mbc.wide, Mbc.clock]

@[simp] theorem Cart.config_setCells (c : Cart) (m : Memory) :
    ({ c with mbc := c.mbc.setCells m } : Cart).config = c.config := by
  obtain ⟨rom, ram, banks, size, battery, mbc⟩ := c
  cases mbc <;> rfl

@[simp] theorem Cart.config_afterReadRam (c : Cart) (now o : Nat) : (c.afterReadRam now o).config = c.config := by
  unfold Cart.afterReadRam
  split
  · rfl
  · rfl
  · rfl
  · exact c.config_mapClock _

@[simp] theorem Cart.config_writeRam (c : Cart) (now o : Nat) (v : Byte) : (c.writeRam now o v).config = c.config := by
  unfold Cart.writeRam
  split
  · rfl
  · rfl
  · exact c.config_setCells _
  · exact c.config_mapClock _

/-- A register write leaves alone that MBC3 is wide and that it has a clock (R241 to R244). -/
theorem Mbc3.intercept_config (m : Mbc3) (romMask now : Nat) (a : Word) (v : Byte) :
    (m.intercept romMask now a v).wide = m.wide ∧ (m.intercept romMask now a v).rtc.isSome = m.rtc.isSome := by
  unfold Mbc3.intercept Mbc3.writeRomReg Mbc3.writeLatch
  split_ifs <;> simp

@[simp] theorem Cart.config_intercept (c : Cart) (now : Nat) (a : Word) (v : Byte) : (c.intercept now a v).config = c.config := by
  obtain ⟨rom, ram, banks, size, battery, mbc⟩ := c
  unfold Cart.intercept
  split
  · cases mbc with
    | none | mbc1 | mbc2 | mbc5 => rfl
    | mbc3 m =>
      obtain ⟨hw, hc⟩ := m.intercept_config (Cart.romMask ⟨rom, ram, banks, size, battery, .mbc3 m⟩) now a v
      simp only [Cart.config, Mbc.variant, Mbc.wide, Mbc.clock, hw, hc]
  · rfl

/-- The cartridge and the parameters of the run are those loading fixed (R68). -/
def LoadedAs (c : CartConfig) (p : Params) (s : State) : Prop := s.cart.config = c ∧ s.params = p

theorem afterRead_config (s : State) (a : Word) : (afterRead s a).cart.config = s.cart.config := by
  rw [afterRead_cart]
  split
  · exact s.cart.config_afterReadRam _ _
  · rfl

theorem write8_config (s : State) (a : Word) (v : Byte) : (write8 s a v).cart.config = s.cart.config := by
  unfold write8
  split
  · exact s.cart.config_intercept _ a v
  · rfl
  · exact s.cart.config_writeRam _ _ v
  · rfl
  · rfl
  · rfl
  · rfl
  · rw [writeIo_cart]
  · rfl
  · rfl

theorem tick_config (s : State) : (tick s).cart.config = s.cart.config := by
  rw [tick_cart]
  split
  · exact afterRead_config s _
  · rfl

/-- Neither time nor a bus access changes what loading fixed. -/
theorem loadedAs_deviceInvariant (c : CartConfig) (p : Params) : DeviceInvariant (LoadedAs c p) where
  frame _ _ _ _ _ hs := hs
  tick hs := ⟨(tick_config _).trans hs.1, hs.2⟩
  afterRead a hs := ⟨(afterRead_config _ a).trans hs.1, hs.2⟩
  write8 a v hs := ⟨(write8_config _ a v).trans hs.1, (write8_params _ a v).trans hs.2⟩

/-- No step changes what loading fixed (R68). -/
theorem step_loadedAs {s t : State} (h : step s = .next t) : LoadedAs s.cart.config s.params t :=
  (loadedAs_deviceInvariant _ _).stepInvariant.step ⟨rfl, rfl⟩ h

/-! ## ROM translation -/

/-- A bank mask is at most 255, whatever the bank count (R205). -/
theorem Cart.romMask_lt (c : Cart) : c.romMask < 256 := by
  unfold Cart.romMask powerOfTwoAtLeast
  split_ifs <;> omega

/-- A masked bank is below 256. -/
theorem Cart.and_romMask_lt (c : Cart) (n : Nat) : n &&& c.romMask < 256 := Nat.lt_of_le_of_lt Nat.and_le_right c.romMask_lt

/-- The bank of the low window is below 256 in every state; `lowBank_lt` of Laws/Wf.lean asks for the invariant. -/
theorem Cart.lowBank_lt (c : Cart) : c.lowBank < 256 := by
  unfold Cart.lowBank
  split
  · split
    · exact c.and_romMask_lt _
    · decide
  · decide
  · decide
  · decide
  · decide

theorem Cart.highBank_lt (c : Cart) : c.highBank < 256 := by
  unfold Cart.highBank
  split
  · decide
  · split <;> exact c.and_romMask_lt _
  · exact c.and_romMask_lt _
  · next m _ => exact m.romBank.isLt
  · exact c.and_romMask_lt _

/-- Every ROM address translates into the 4 MiB array, in every state of the controller (R203, R213). -/
theorem Cart.romOffset_lt (c : Cart) {a : Word} (ha : a.toNat < 0x8000) : c.romOffset a < 4194304 := by
  have hl := c.lowBank_lt
  have hh := c.highBank_lt
  unfold Cart.romOffset
  split
  · omega
  · next hn =>
    rw [offset_of_le (by simpa using hn)]
    simp
    omega

theorem region_rom {a : Word} (ha : a.toNat < 0x8000) : region a = .rom := by simp [region, ha]

theorem read8_rom (s : State) {a : Word} (ha : a.toNat < 0x8000) : read8 s a = s.cart.rom.read (s.cart.romOffset a) := by
  unfold read8
  rw [region_rom ha]
  rfl

/-- Settles O46: every part of a step keeps what loading fixed, and a bank is below 256 in every state. -/
theorem romAndConfiguration : Obligations.RomAndConfiguration := by
  unfold Obligations.RomAndConfiguration
  refine ⟨fun s t h => ?_, fun s a ha => ⟨read8_rom s ha, s.cart.romOffset_lt ha⟩⟩
  obtain ⟨hc, hp⟩ := step_loadedAs h
  injection hc with hrom hbanks hsize hbattery hvariant hwide hclock
  refine ⟨hrom, hbanks, hsize, hbattery, hp, hclock, ?_⟩
  -- Two different kinds of controller contradict `hvariant`.
  cases hs : s.cart.mbc <;> cases ht : t.cart.mbc <;> simp_all [Mbc.variant, Mbc.wide]

end Sys2Proof.Machine
end


section
/-! The I/O registers (R69, R131, R136). -/

namespace Sys2Proof.Machine

theorem region_io {a : Word} (h0 : 0xFF00 ≤ a.toNat) (h1 : a.toNat < 0xFF80) : region a = .io := by
  unfold region
  repeat rw [if_neg (by omega)]
  rw [if_pos h1]

theorem read8_io (s : State) {a : Word} (h : region a = .io) : read8 s a = readIo s a := by unfold read8; rw [h]

theorem write8_io (s : State) {a : Word} (v : Byte) (h : region a = .io) : write8 s a v = writeIo s a v := by
  unfold write8; rw [h]

/-- A three-bit register reads with its five high bits as ones. -/
theorem toNat_ones_or_three (w : BitVec 3) : (0xF8 ||| w.setWidth 8 : Byte).toNat = 0xF8 + w.toNat := by
  revert w; decide

/-- A five-bit register reads with its three high bits as ones. -/
theorem toNat_ones_or_five (w : BitVec 5) : (0xE0 ||| w.setWidth 8 : Byte).toNat = 0xE0 + w.toNat := by
  revert w; decide

theorem ioReg_svbk {cgb : Bool} (h : cgb = true) : ioReg cgb 0xFF70 = .svbk := by subst h; rfl

theorem ioReg_vbk {cgb : Bool} (h : cgb = true) : ioReg cgb 0xFF4F = .vbk := by subst h; rfl

/-- An I/O address that names no register of the CORE is a collaborator's, or on CGB that of VBK (R131, R136). -/
theorem ioReg_collaborator_or_vbk {cgb : Bool} {a : Word}
    (ha : a.toNat ∉ [0xFF00, 0xFF04, 0xFF05, 0xFF06, 0xFF07, 0xFF0F, 0xFF46]) (hs : cgb = true → a ≠ 0xFF70) :
    ioReg cgb a = .collaborator ∨ (ioReg cgb a = .vbk ∧ cgb = true ∧ a = 0xFF4F) := by
  simp only [List.mem_cons, List.not_mem_nil, or_false, not_or] at ha
  unfold ioReg
  split_ifs <;> simp_all

theorem readIo_of_collaborator_or_vbk (s : State) {a : Word}
    (h : ioReg s.params.cgb a = .collaborator ∨ ioReg s.params.cgb a = .vbk) :
    readIo s a = Config.ioOracle a s.env.ioWrites s.env.ioReads := by
  unfold readIo
  rcases h with h | h <;> rw [h]

theorem writeIo_collaborator (s : State) {a : Word} (v : Byte) (h : ioReg s.params.cgb a = .collaborator) :
    writeIo s a v = { s with env := { s.env with ioWrites := { addr := a, value := v } :: s.env.ioWrites } } := by
  unfold writeIo; rw [h]

/-- A write of VBK is refused where it selects bank 1, and an event otherwise (R131). -/
theorem writeIo_vbk (s : State) {a : Word} (v : Byte) (h : ioReg s.params.cgb a = .vbk) :
    writeIo s a v = if v.getLsbD 0 then { s with vbkRefused := true }
      else { s with env := { s.env with ioWrites := { addr := a, value := v } :: s.env.ioWrites } } := by
  unfold writeIo; rw [h]

theorem writeIo_svbk_reg (s : State) {a : Word} (v : Byte) (h : ioReg s.params.cgb a = .svbk) :
    writeIo s a v = { s with mem := { s.mem with svbk := v.setWidth 3 } } := by
  unfold writeIo; rw [h]

theorem readIo_svbk (s : State) {a : Word} (h : ioReg s.params.cgb a = .svbk) : readIo s a = 0xF8 ||| s.mem.svbk.setWidth 8 := by
  unfold readIo; rw [h]

/-- Settles O41: each address that is fixed evaluates to its register; an address that is none of them is a collaborator's or
VBK's. -/
theorem ioRegisters : Obligations.IoRegisters := by
  unfold Obligations.IoRegisters
  intro s v
  refine ⟨⟨rfl, rfl⟩, ⟨rfl, rfl⟩, ⟨rfl, rfl⟩, ⟨rfl, rfl⟩,
    ⟨toNat_ones_or_three _, v.setWidth 3, BitVec.toNat_setWidth .., rfl⟩,
    ⟨toNat_ones_or_five _, v.setWidth 5, BitVec.toNat_setWidth .., rfl⟩, rfl, rfl, fun hc => ?_, ⟨rfl, rfl⟩, fun hc hv => ?_,
    fun a h0 h1 ha hs => ?_⟩
  · rw [read8_io s rfl, write8_io s v rfl, readIo_svbk s (ioReg_svbk hc), writeIo_svbk_reg s v (ioReg_svbk hc)]
    exact ⟨toNat_ones_or_three _, v.setWidth 3, BitVec.toNat_setWidth .., rfl⟩
  · rw [write8_io s v rfl, writeIo_vbk s v (ioReg_vbk hc), if_pos hv]
  · have hio := region_io h0 h1
    rw [read8_io s hio, write8_io s v hio]
    rcases ioReg_collaborator_or_vbk ha hs with hr | ⟨hr, hc, rfl⟩
    · exact ⟨readIo_of_collaborator_or_vbk s (.inl hr), fun _ => writeIo_collaborator s v hr⟩
    · refine ⟨readIo_of_collaborator_or_vbk s (.inr hr), fun hv => ?_⟩
      rw [writeIo_vbk s v hr, if_neg (ne_true_of_eq_false (hv ⟨hc, rfl⟩))]

end Sys2Proof.Machine
end


section
/-! The invariant of the machine (R43, R52, R56, R62, R64, R65, R607, R622): memory and the devices, F, and the engine, each kept by
every part of a step; together they are `State.ok`. -/

namespace Sys2Proof.Machine

/-! ## Memory and the devices -/

/-- The part of the invariant that is about memory, the cartridge and the devices. -/
structure DevicesOk (s : State) : Prop where
  memory : MemoryOk s
  dma : s.dma.ok = true
  timer : s.timer.ok = true
  joy : s.joy.ok = true

theorem Dma.ok_iff (d : Dma) : d.ok = true ↔
    d.idx ≤ 160 ∧ (d.active = true → d.idx < 160 ∧ d.src = word d.reg 0) ∧ (d.idx = 0 ∨ d.started = true) := by
  simp [Dma.ok, and_assoc, imp_iff_not_or]

theorem Dma.copies_iff (d : Dma) : d.copies = true ↔ d.active = true ∧ d.started = true := by simp [Dma.copies]

theorem and_three_eq_zero (v : Word) : v &&& 3 = 0 ↔ v.toNat % 4 = 0 := by
  rw [← BitVec.toNat_inj]
  show v.toNat &&& 3 = 0 ↔ _
  rw [Nat.and_two_pow_sub_one_eq_mod v.toNat 2]

theorem Timer.ok_iff (t : Timer) : t.ok = true ↔ t.sys.toNat % 4 = 0 ∧ (t.reloadPending = true → t.tima = 0) := by
  simp [Timer.ok, ← and_three_eq_zero, imp_iff_not_or]

theorem writeIo_dma_ok {s : State} (a : Word) (v : Byte) (h : s.dma.ok = true) : (writeIo s a v).dma.ok = true := by
  unfold writeIo
  cases ioReg s.params.cgb a with
  | dma => simp [Dma.ok]
  | vbk => dsimp only; split <;> exact h
  | _ => exact h

theorem and_joypadMask (v : Byte) : (v &&& 0x30) &&& 0xCF = 0 := by
  rw [BitVec.and_assoc]; simp

theorem writeIo_joy_ok {s : State} (a : Word) (v : Byte) (h : s.joy.ok = true) : (writeIo s a v).joy.ok = true := by
  unfold writeIo
  cases ioReg s.params.cgb a with
  | p1 => simpa [Joypad.ok] using and_joypadMask v
  | vbk => dsimp only; split <;> exact h
  | _ => exact h

/-- A write of DIV restarts SYS, and a write of TIMA cancels a reload that is due (R56, R623). -/
theorem writeIo_timer_ok {s : State} (a : Word) (v : Byte) (h : s.timer.ok = true) : (writeIo s a v).timer.ok = true := by
  rw [Timer.ok_iff] at h ⊢
  unfold writeIo
  cases ioReg s.params.cgb a with
  | div => exact ⟨rfl, h.2⟩
  | tima => exact ⟨h.1, nofun⟩
  | vbk => dsimp only; split <;> exact h
  | _ => exact h

theorem write8_devicesOk {s : State} (a : Word) (v : Byte) (h : DevicesOk s) : DevicesOk (write8 s a v) := by
  have hm := write8_ok a v h.memory
  unfold write8 at hm ⊢
  cases hr : region a <;> simp only [hr] at hm ⊢
  case io => exact ⟨hm, writeIo_dma_ok a v h.dma, writeIo_timer_ok a v h.timer, writeIo_joy_ok a v h.joy⟩
  all_goals exact ⟨hm, h.dma, h.timer, h.joy⟩

/-- A transfer that copies has bytes left, and its last byte ends it; one that starts up has copied nothing (R142). -/
theorem tick_dma_ok {s : State} (h : s.dma.ok = true) : (tick s).dma.ok = true := by
  rw [Dma.ok_iff] at h ⊢
  obtain ⟨hidx, hactive, hstarted⟩ := h
  simp only [tick_dma_idx, tick_dma_active, tick_dma_started, tick_dma_src, tick_dma_reg]
  by_cases hc : s.dma.copies = true
  · obtain ⟨ha, hs⟩ := s.dma.copies_iff.mp hc
    obtain ⟨hlt, hsrc⟩ := hactive ha
    by_cases hlast : s.dma.idx + 1 = 160
    · simp [hc, hlast, hs]
    · simp only [hc, hlast, and_false, if_false, if_true, hs, Bool.true_or, or_true, and_true]
      exact ⟨hlt, fun _ => ⟨by omega, hsrc⟩⟩
  · simp only [hc, false_and, if_false, Bool.false_eq_true, Bool.or_eq_true]
    exact ⟨hidx, hactive, hstarted.imp_right .inl⟩

/-- SYS counts on in fours, and an overflow leaves TIMA at zero (R621, R622). -/
theorem Timer.ok_advance {t : Timer} (h : t.ok = true) : t.advance.ok = true := by
  rw [Timer.ok_iff] at h ⊢
  refine ⟨?_, fun hp => ?_⟩
  · have h4 := h.1
    simp only [Timer.advance, Timer.nextSys, BitVec.toNat_add]
    simp
    omega
  · simp only [Timer.advance, Bool.and_eq_true, beq_iff_eq] at hp ⊢
    rw [if_pos hp.1, hp.2]
    rfl

theorem devicesOk_deviceInvariant : DeviceInvariant DevicesOk where
  frame _ _ _ _ _ h := ⟨h.memory, h.dma, h.timer, h.joy⟩
  tick h := ⟨tick_ok h.dma h.memory, tick_dma_ok h.dma, Timer.ok_advance h.timer, h.joy⟩
  afterRead a h := ⟨afterRead_ok a h.memory, h.dma, h.timer, h.joy⟩
  write8 a v h := write8_devicesOk a v h

/-! ## F -/

/-- F's low nibble is zero (R43). -/
abbrev LowF (f : Byte) : Prop := f &&& 0x0F#8 = 0#8

theorem addWithCarry_low (a b : Byte) (c : Bool) : LowF (addWithCarry a b c).2 := packFlags_low ..

theorem subWithBorrow_low (a b : Byte) (c : Bool) : LowF (subWithBorrow a b c).2 := packFlags_low ..

theorem alu_low (op : AluOp) (a b f : Byte) : LowF (alu op a b f).2 := by
  cases op with
  | add | adc => exact addWithCarry_low ..
  | sub | sbc | cp => exact subWithBorrow_low ..
  | and | xor | or => exact packFlags_low ..

theorem memWrite_low {s : State} {a : Word} {v : Byte} (h : LowF s.regs.f) : LowF (memWrite s a v).regs.f := by
  rwa [memWrite_regs]

theorem pushByte_low {s : State} {v : Byte} (h : LowF s.regs.f) : LowF (pushByte s v).regs.f := memWrite_low h

/-- Every micro-op that writes F writes four flags, or the low byte of a pair masked (R43). -/
theorem micro_low {s : State} (op : MicroOp) (h : LowF s.regs.f) : LowF (micro op s).regs.f := by
  cases op with
  | store | storeSpLow | storeSpHigh | resMem | setMem => exact memWrite_low h
  | storeHlInc | storeHlDec => exact memWrite_low h
  | pushHigh | pushLow | pushPcHigh | pushPcLow => exact pushByte_low h
  | incMem | decMem | rotMem => exact memWrite_low (s := setF s _) (packFlags_low ..)
  | aluReg op | aluTmp op => exact alu_low ..
  | hlFromSpE | addSpE | incReg | decReg | daa | cpl | scf | ccf | addHl | rlca | rrca | rla | rra | rotReg | bitReg | bitTmp =>
    exact packFlags_low ..
  | copyReg | regFromTmp | resReg | setReg => exact (congrArg LowF (Regs.set_keeps_f ..)).mpr h
  | pairFromNn dd | incPair dd | decPair dd => cases dd <;> exact h
  | qpairFromNn qq =>
    cases qq with
    | af => exact maskF_low _
    | bc | de | hl => exact h
  | stop =>
    show LowF (stopCpu s).regs.f
    unfold stopCpu
    split <;> exact h
  | _ => exact h

theorem lowF_stepInvariant : StepInvariant fun s => LowF s.regs.f where
  tick h := h
  micro := micro_low
  dispatchCheck h := by
    unfold dispatchCheck
    split
    · exact pushByte_low (pushByte_low h)
    · exact h
  fetchOpcode h := h
  immRead h := h
  engine _ h := h

end Sys2Proof.Machine
end


section
/-! The engine between two instructions (R51, R52, R53, R368): while an instruction runs, the CPU is running without a HALT bug and its
queue holds what is left of it; HALT and STOP, which change the run state, are the last micro-ops of theirs. -/

namespace Sys2Proof.Machine

/-! ## The lists -/

/-- The micro-ops that leave the run state, the HALT bug and the queue alone. -/
def MicroOp.isPlain : MicroOp → Bool
  | .halt => false
  | .stop => false
  | .prefixCB => false
  | _ => true

/-- Plain micro-ops, after which HALT or STOP may stand last. -/
def plainToEnd : List Micro → Bool
  | [] => true
  | m :: rest => (m.op.isPlain || ((m.op == .halt || m.op == .stop) && rest.isEmpty)) && plainToEnd rest

/-- A list of at most six micro-ops, of which those from number `k` on are plain to the end (R368). -/
def runsFrom (k : Nat) (ops : List Micro) : Bool :=
  plainToEnd (ops.drop k) && decide (k ≤ ops.length) && decide (ops.length ≤ 6)

theorem runsFrom_iff (k : Nat) (ops : List Micro) :
    runsFrom k ops = true ↔ plainToEnd (ops.drop k) = true ∧ k ≤ ops.length ∧ ops.length ≤ 6 := by
  simp [runsFrom, and_assoc]

/-- What `exec` runs of an instruction's list. -/
theorem runsFrom_microops {i : Instr} (h : i.wellFormed = true) : runsFrom (microopsDone i) (microops i) = true := by
  cases i with
  | PREFIX_CB => exact absurd h (by decide)
  | _ => rfl

/-- What follows the byte 0xCB. -/
theorem runsFrom_cb (cb : Byte) : runsFrom 1 (microops (cbInstr cb)) = true := by
  revert cb; decide

/-! ## Running them -/

/-- The engine inside an instruction: running, without a HALT bug or a fault, `n` micro-ops of the queue left. -/
structure Engine.Busy (n : Nat) (e : Engine) : Prop where
  run : e.run = .running
  haltBug : e.haltBug = false
  fault : e.fault = none
  short : e.queue.length ≤ 6
  left : e.qi + n = e.queue.length

theorem Engine.ok_iff (e : Engine) : e.ok = true ↔ e.qi = e.queue.length ∧ e.queue.length ≤ 6 ∧
    (e.haltBug = true → e.run = .running ∧ e.ime ≠ .enabled) ∧ e.fault = none := by
  simp [Engine.ok, and_assoc, imp_iff_not_or]

/-- An engine with no micro-op left is one between two instructions. -/
theorem Engine.Busy.ok {e : Engine} (h : e.Busy 0) : e.ok = true :=
  (Engine.ok_iff e).mpr ⟨h.left, h.short, fun hb => absurd hb (by simp [h.haltBug]), h.fault⟩

theorem tick_run_running {s : State} (h : s.eng.run = .running) : (tick s).eng.run = .running := by
  show (match s.eng.run with | .stopped => _ | .running => RunState.running | .halted => _) = _
  rw [h]

theorem Engine.Busy.tick {n : Nat} {s : State} (h : s.eng.Busy n) : (tick s).eng.Busy n :=
  ⟨tick_run_running h.run, h.haltBug, h.fault, h.short, h.left⟩

/-- A plain micro-op changes at most the latches and IME of the engine. -/
theorem micro_eng_plain {op : MicroOp} (h : op.isPlain = true) (s : State) :
    ∃ x v, (micro op s).eng = { s.eng with ctx := x, ime := v } := by
  cases op with
  | halt | stop | prefixCB => cases h
  | store | storeSpLow | storeSpHigh | resMem | setMem | storeHlInc | storeHlDec | pushHigh | pushLow | pushPcHigh | pushPcLow
  | incMem | decMem | rotMem => exact ⟨_, _, memWrite_eng ..⟩
  | _ => exact ⟨_, _, rfl⟩

/-- HALT as the last micro-op: it halts the CPU, or IME is not enabled and the HALT bug may be set in a running CPU (R572). -/
theorem Engine.Busy.haltCpu {s : State} (h : s.eng.Busy 1) : (bumpQi (haltCpu s)).eng.ok = true := by
  rw [Engine.ok_iff]
  refine ⟨h.left, h.short, fun hb => ?_, h.fault⟩
  by_cases hc : s.eng.ime = .enabled ∨ pending s = 0
  · have hkept : (bumpQi (Sys2Proof.Machine.haltCpu s)).eng.haltBug = s.eng.haltBug := if_pos hc
    exact absurd (hkept.symm.trans hb) (by simp [h.haltBug])
  · exact ⟨(if_neg hc).trans h.run, fun hi => hc (.inl hi)⟩

/-- STOP as the last micro-op: the HALT bug is not set in the CPU it stops (R573). -/
theorem Engine.Busy.stopCpu {s : State} (h : s.eng.Busy 1) : (bumpQi (stopCpu s)).eng.ok = true := by
  have he : (Sys2Proof.Machine.stopCpu s).eng = { s.eng with run := .stopped } := by
    unfold Sys2Proof.Machine.stopCpu
    split <;> rfl
  simp only [bumpQi, he]
  rw [Engine.ok_iff]
  exact ⟨h.left, h.short, fun hb => absurd hb (by simp [h.haltBug]), h.fault⟩

/-- A plain micro-op leaves the engine busy with one micro-op less. -/
theorem Engine.Busy.micro {n : Nat} {s : State} {op : MicroOp} (hp : op.isPlain = true) (h : s.eng.Busy (n + 1)) :
    (bumpQi (micro op s)).eng.Busy n := by
  obtain ⟨x, v, he⟩ := micro_eng_plain hp s
  simp only [bumpQi, he]
  exact ⟨h.run, h.haltBug, h.fault, h.short, by have := h.left; simp only; omega⟩

/-- A condition that fails cuts the queue short (R364). -/
theorem Engine.Busy.truncate {n : Nat} {e : Engine} (h : e.Busy n) : Engine.Busy 0 { e with qi := e.queue.length } :=
  ⟨h.run, h.haltBug, h.fault, h.short, rfl⟩

theorem runMicro_of_holds {m : Micro} {s : State} (h : m.holds s = true) : runMicro m s = bumpQi (micro m.op s) := if_pos h

theorem runMicro_of_not_holds {m : Micro} {s : State} (h : ¬ m.holds s = true) :
    runMicro m s = { s with eng := { s.eng with qi := s.eng.queue.length } } := if_neg h

/-- Running what is left of the queue leaves the engine as it is between two instructions. -/
theorem Engine.Busy.runRest {ops : List Micro} {s : State} (ho : plainToEnd ops = true) (h : s.eng.Busy ops.length) :
    (runRest ops s).eng.ok = true := by
  induction ops generalizing s with
  | nil => exact h.ok
  | cons m rest ih =>
    simp only [plainToEnd, Bool.and_eq_true, Bool.or_eq_true, beq_iff_eq, List.isEmpty_iff] at ho
    obtain ⟨hm, hrest⟩ := ho
    unfold Sys2Proof.Machine.runRest
    split
    · next hh =>
      rw [runMicro_of_holds hh]
      rcases hm with hp | ⟨hop, rfl⟩
      · exact ih hrest (h.tick.micro hp)
      · rcases hop with hop | hop
        · rw [hop]; exact h.tick.haltCpu
        · rw [hop]; exact h.tick.stopCpu
    · next hh =>
      rw [runMicro_of_not_holds hh]
      exact h.tick.truncate.ok

/-! ## A step -/

/-- The CPU is running, without a HALT bug or a fault: what a fetch leaves (R51, R366). -/
def Engine.Fetched (e : Engine) : Prop := e.run = .running ∧ e.haltBug = false ∧ e.fault = none

theorem Engine.Fetched.withQueue {e : Engine} {x : Ctx} {ops : List Micro} {k : Nat} (h : e.Fetched) (hl : k ≤ ops.length)
    (h6 : ops.length ≤ 6) : Engine.Busy (ops.drop k).length { e with ctx := x, queue := ops, qi := k } := by
  obtain ⟨hr, hb, hf⟩ := h
  exact ⟨hr, hb, hf, h6, by rw [List.length_drop]; simp only; omega⟩

/-- The dispatch check changes IME alone of the engine (R607). -/
theorem dispatchCheck_eng (s : State) : ∃ v, (dispatchCheck s).eng = { s.eng with ime := v } := by
  unfold dispatchCheck takeInterrupt pushByte
  split
  · exact ⟨.disabled, (memWrite_eng ..).trans (memWrite_eng ..)⟩
  · exact ⟨_, rfl⟩

/-- The fetch consumes the HALT bug, and the bus cycles of the immediate reads leave a running CPU running (R51). -/
theorem fetched_bytesRead {s : State} (n : Nat) (hr : s.eng.run = .running) (hf : s.eng.fault = none) :
    (bytesRead n s).eng.Fetched := by
  induction n with
  | zero => exact ⟨hr, rfl, hf⟩
  | succ n ih => exact ⟨tick_run_running ih.1, ih.2⟩

/-- The micro-op of the byte 0xCB puts the micro-ops of the second byte behind itself into the queue (R367). -/
theorem runRest_prefixCB_eng (s : State) : ∃ cb, (runRest Microcode.prefixCB (withQueue s Microcode.prefixCB 0)).eng =
    { (tick s).eng with queue := does .prefixCB :: cbMicroops cb, qi := 1 } := ⟨_, rfl⟩

/-- The byte 0xCB runs the micro-ops of the second byte to their end (R367). -/
theorem runPrefix_eng_ok {s t : State} (hs : s.eng.Fetched) (h : runPrefix s = .next t) : t.eng.ok = true := by
  obtain ⟨rfl, -⟩ := finish_eq_next h
  obtain ⟨cb, he⟩ := runRest_prefixCB_eng s
  obtain ⟨hp, h1, h6⟩ := (runsFrom_iff _ _).mp (runsFrom_cb cb)
  have ht : (tick s).eng.Fetched := ⟨tick_run_running hs.1, hs.2⟩
  have hl : (does .prefixCB :: cbMicroops cb).length ≤ 6 := by
    simp only [cbMicroops, List.length_cons, List.length_drop]
    omega
  refine Engine.Busy.runRest ?_ ?_
  · rw [he]; exact hp
  · rw [he]; exact ht.withQueue (by simp) hl

/-- Executing an instruction leaves the engine as it is between two instructions. -/
theorem exec_eng_ok {i : Instr} {s t : State} (hs : s.eng.Fetched) (h : exec i s = .next t) : t.eng.ok = true := by
  rcases exec_next h with ⟨hw, -, rfl⟩ | h
  · obtain ⟨hp, hl, h6⟩ := (runsFrom_iff _ _).mp (runsFrom_microops hw)
    refine Engine.Busy.runRest hp ?_
    rw [latchImmediates_eq]
    exact hs.withQueue hl h6
  · exact runPrefix_eng_ok hs h

theorem exec_vbkRefused {i : Instr} {s t : State} (h : exec i s = .next t) : t.vbkRefused = false := by
  rcases exec_next h with ⟨-, hv, -⟩ | h
  · exact hv
  · obtain ⟨rfl, hv⟩ := finish_eq_next h
    exact hv

/-- A bus cycle without the CPU leaves an engine without the HALT bug as it is between two instructions, whatever run state follows. -/
theorem tick_eng_ok {s : State} (r : RunState) (h : s.eng.ok = true) (hr : s.eng.run ≠ .running) :
    Engine.ok { (tick s).eng with run := r } = true := by
  rw [Engine.ok_iff] at h ⊢
  obtain ⟨hq, h6, hb, hf⟩ := h
  exact ⟨hq, h6, fun h' => absurd (hb h').1 hr, hf⟩

/-- A step leaves the engine as it is between two instructions, and it is no refused write. -/
theorem step_eng_ok {s t : State} (hs : s.eng.ok = true) (h : step s = .next t) : t.eng.ok = true ∧ t.vbkRefused = false := by
  obtain ⟨hv, hf, ⟨hr, rfl⟩ | ⟨hr, rfl⟩ | ⟨hr, i, n, h⟩⟩ := step_next h
  · exact ⟨tick_eng_ok _ hs (by simp [hr]), hv⟩
  · exact ⟨tick_eng_ok _ hs (by simp [hr]), hv⟩
  · obtain ⟨v, he⟩ := dispatchCheck_eng s
    have hfetched : (bytesRead n (dispatchCheck s)).eng.Fetched := fetched_bytesRead n (by rw [he]; exact hr) (by rw [he]; exact hf)
    exact ⟨exec_eng_ok hfetched h, exec_vbkRefused h⟩

/-! ## The whole invariant -/

theorem State.ok_iff (s : State) : s.ok = true ↔
    LowF s.regs.f ∧ s.eng.ok = true ∧ DevicesOk s ∧ s.vbkRefused = false := by
  simp only [State.ok, Regs.ok, Bool.and_eq_true, beq_iff_eq, Bool.not_eq_true', LowF]
  constructor
  · rintro ⟨⟨⟨⟨⟨⟨⟨hf, he⟩, ht⟩, hj⟩, hd⟩, hm⟩, hc⟩, hv⟩
    exact ⟨hf, he, ⟨⟨hm, hc⟩, hd, ht, hj⟩, hv⟩
  · rintro ⟨hf, he, ⟨⟨hm, hc⟩, hd, ht, hj⟩, hv⟩
    exact ⟨⟨⟨⟨⟨⟨⟨hf, he⟩, ht⟩, hj⟩, hd⟩, hm⟩, hc⟩, hv⟩

/-- Settles O59: F, memory and the devices are kept by every part of a step; the engine is busy within an instruction and between two
instructions again at its end. -/
theorem stepKeepsOk : Obligations.StepKeepsOk := by
  unfold Obligations.StepKeepsOk
  intro s t hs h
  obtain ⟨hf, he, hd, -⟩ := s.ok_iff.mp hs
  obtain ⟨he', hv'⟩ := step_eng_ok he h
  exact t.ok_iff.mpr ⟨lowF_stepInvariant.step hf h, he', devicesOk_deviceInvariant.stepInvariant.step hd h, hv'⟩

end Sys2Proof.Machine
end


section
/-! The memory family: the bytes of an instruction, the storage regions of the map, and OAM DMA (R125 to R150). -/

namespace Sys2Proof.Machine

/-! ## The bytes of an instruction -/

/-- Reading an instruction's bytes changes no steady address. -/
theorem read8_bytesRead {s : State} {b : Word} (n : Nat) (h : steady s b = true) : read8 (bytesRead n s) b = read8 s b := by
  induction n with
  | zero => exact read8_fetchOpcode h
  | succ n ih =>
    have hn := steady_bytesRead n h
    rw [bytesRead_succ, read8_immRead (steady_tick hn), read8_tick hn, ih]

/-- The address byte `n` of an instruction is read at: the HALT bug reads the opcode's own address again (R51). -/
theorem fetchedByte_eq_read8 {s : State} (n : Nat)
    (h : steady s (s.regs.pc + BitVec.ofNat 16 (if s.eng.haltBug then n - 1 else n)) = true) :
    fetchedByte n s = read8 s (s.regs.pc + BitVec.ofNat 16 (if s.eng.haltBug then n - 1 else n)) := by
  cases n with
  | zero => simp [fetchedByte, fetchedOpcode]
  | succ n =>
    rw [Nat.add_sub_cancel] at h ⊢
    show read8 (tick (bytesRead n s)) (bytesRead n s).regs.pc = _
    rw [bytesRead_pc, read8_tick (steady_bytesRead n h), read8_bytesRead n h]

/-- Settles O57: PC moves on by one for each byte read, and no read changes a steady address. -/
theorem codeBytes : Obligations.CodeBytes := by
  unfold Obligations.CodeBytes
  refine fun s n => ⟨fun hs => fetchedByte_eq_read8 n (hs _ ?_), fun _ hb => read8_bytesRead n hb⟩
  split
  · exact n.sub_le 1
  · exact n.le_refl

/-! ## The regions of the map (R126) -/

/-- The first address of a region. -/
def Region.base : Region → Nat
  | .rom => 0x0000
  | .vram => 0x8000
  | .cartRam => 0xA000
  | .wram => 0xC000
  | .echo => 0xE000
  | .oam => 0xFE00
  | .unusable => 0xFEA0
  | .io => 0xFF00
  | .hram => 0xFF80
  | .ie => 0xFFFF

/-- The address after the last of a region. -/
def Region.limit : Region → Nat
  | .rom => 0x8000
  | .vram => 0xA000
  | .cartRam => 0xC000
  | .wram => 0xE000
  | .echo => 0xFE00
  | .oam => 0xFEA0
  | .unusable => 0xFF00
  | .io => 0xFF80
  | .hram => 0xFFFF
  | .ie => 0x10000

theorem Region.bounds_disjoint {r q : Region} (h : r ≠ q) : r.limit ≤ q.base ∨ q.limit ≤ r.base := by
  revert h
  cases r <;> cases q <;> decide

theorem region_bounds (a : Word) : (region a).base ≤ a.toNat ∧ a.toNat < (region a).limit := by
  have ha := a.isLt
  unfold region
  split_ifs <;> simp only [Region.base, Region.limit] <;> omega

/-- An address lies in the region within whose bounds it is. -/
theorem region_eq {a : Word} {r : Region} (h0 : r.base ≤ a.toNat) (h1 : a.toNat < r.limit) : region a = r := by
  by_contra hne
  have hb := region_bounds a
  have hd := Region.bounds_disjoint hne
  omega

/-! ## Work RAM (R130) -/

theorem wramOffset_unbanked (s : State) {a : Word} (h0 : 0xC000 ≤ a.toNat) (h : s.params.cgb = true → a.toNat < 0xD000) :
    wramOffset s a = a.toNat - 0xC000 := by
  rw [wramOffset, if_neg fun hc => absurd (h hc.1) (by omega)]
  exact offset_of_le h0

theorem wramOffset_banked (s : State) {a : Word} (hc : s.params.cgb = true) (h0 : 0xD000 ≤ a.toNat) :
    wramOffset s a = wramBank s.mem.svbk * 0x1000 + (a.toNat - 0xD000) := by
  rw [wramOffset, if_pos ⟨hc, h0⟩, offset_of_le (base := 0xD000) h0]
  rfl

theorem wramBank_eq (w : BitVec 3) : wramBank w = if w.toNat = 0 then 1 else w.toNat := by
  revert w; decide

/-! ## The cell behind an address -/

theorem cellAt_vram (s : State) {a : Word} (h : region a = .vram) : cellAt s a = some (.vram (a.toNat - 0x8000)) := by
  simp only [cellAt, h, vramIndex]
  rw [offset_of_le (base := 0x8000) (region_vram_range h).1]
  rfl

theorem cellAt_wram (s : State) {a : Word} (h : region a = .wram) : cellAt s a = some (.wram (wramOffset s a)) := by
  simp only [cellAt, h]

theorem cellAt_oam (s : State) {a : Word} (h : region a = .oam) : cellAt s a = some (.oam (a.toNat - 0xFE00)) := by
  simp only [cellAt, h, oamIndex]
  rw [offset_of_le (base := 0xFE00) (region_oam_range h).1]
  rfl

theorem cellAt_hram (s : State) {a : Word} (h : region a = .hram) : cellAt s a = some (.hram (a.toNat - 0xFF80)) := by
  simp only [cellAt, h, hramIndex]
  rw [offset_of_le (base := 0xFF80) (region_hram_range h).1]
  rfl

theorem cellAt_ie (s : State) {a : Word} (h : region a = .ie) : cellAt s a = some .ie := by simp only [cellAt, h]

/-- An echo address stands for the work RAM address 0x2000 below it (R132). -/
theorem region_echoBase {a : Word} (h : region a = .echo) : region (echoBase a) = .wram := by
  have hr := region_echo_range h
  have he := echoBase_toNat h
  exact region_eq (by simp only [Region.base]; omega) (by simp only [Region.limit]; omega)

/-- An echo address is read, written and mapped as the address it stands for (R132). -/
theorem echo_eq_echoBase (s : State) {a : Word} (v : Byte) (h : region a = .echo) :
    read8 s a = read8 s (echoBase a) ∧ write8 s a v = write8 s (echoBase a) v ∧ cellAt s a = cellAt s (echoBase a) := by
  simp only [read8, write8, cellAt, h, region_echoBase h, and_self]

theorem unusable_reads_ones_drops_writes (s : State) {a : Word} (v : Byte) (h : region a = .unusable) :
    read8 s a = 0xFF ∧ write8 s a v = s := by
  simp only [read8, write8, h, and_self]

/-- Only the RAM window of an MBC2 keeps less than the whole byte (R233). -/
theorem keptByte_of_region {s : State} {a : Word} {c : StorageCell} (v : Byte) (hc : cellAt s a = some c)
    (ha : region a ≠ .cartRam) : keptByte c v = v := by
  unfold cellAt at hc
  cases hr : region a <;> simp only [hr, reduceCtorEq, ne_eq, not_true_eq_false] at hc ha
  all_goals
    cases hc
    rfl

/-- Settles O40: each region's cell by its index, and what a write stores and leaves alone by the laws of reads and writes. -/
theorem memoryMap : Obligations.MemoryMap := by
  unfold Obligations.MemoryMap
  intro s a v
  refine ⟨fun h0 h1 => cellAt_vram s (region_eq h0 h1), fun h0 h1 hc => ?_, fun h0 h1 => ?_, fun h0 h1 hc => ?_,
    fun h0 h1 => echo_eq_echoBase s v (region_eq h0 h1), fun h0 h1 => cellAt_oam s (region_eq h0 h1),
    fun h0 h1 => unusable_reads_ones_drops_writes s v (region_eq h0 h1),
    fun h0 h1 => cellAt_hram s (region_eq h0 h1), fun h => cellAt_ie s (region_eq h.ge a.isLt),
    fun _ h1 c hc => ?_, fun b hb hr => read8_write8_other v hb hr⟩
  · rw [cellAt_wram s (region_eq h0 h1), wramOffset_unbanked s h0 (by simp [hc])]
  · rw [cellAt_wram s (region_eq h0 (h1.trans (by decide))), wramOffset_unbanked s h0 fun _ => h1]
  · rw [cellAt_wram s (region_eq (le_trans (by decide) h0) h1), wramOffset_banked s hc h0, wramBank_eq]
  · have hram : region a ≠ .cartRam := fun h => by
      have := region_cartRam_range h
      omega
    rw [read8_write8_same v hc, keptByte_of_region v hc hram]

/-! ## OAM DMA (R141 to R144) -/

theorem elapse_succ (n : Nat) (s : State) : elapse (n + 1) s = tick (elapse n s) := by
  induction n generalizing s with
  | zero => rfl
  | succ n ih => exact ih (tick s)

theorem write8_dma (s : State) (v : Byte) : write8 s 0xFF46 v =
    { s with dma := { reg := v, active := true, started := false, src := word v 0, idx := 0 } } := rfl

/-- The DMA phase that starts a transfer up copies nothing (R142). -/
theorem dmaPhase_startUp {s : State} (ha : s.dma.active = true) (hs : s.dma.started = false) :
    dmaPhase s = { s with dma := { s.dma with started := true } } := by
  simp [dmaPhase, Dma.copies, ha, hs]

/-- A DMA phase past the start-up copies one byte, and the 160th ends the transfer (R142). -/
theorem dmaPhase_copy {s : State} (ha : s.dma.active = true) (hs : s.dma.started = true) :
    (dmaPhase s).mem.oam = s.mem.oam.write s.dma.idx (read8 s (s.dma.src + BitVec.ofNat 16 s.dma.idx)) ∧
    (dmaPhase s).dma = { s.dma with idx := s.dma.idx + 1, active := decide (s.dma.idx + 1 ≠ 160) } := by
  have hc := s.dma.copies_iff.mpr ⟨ha, hs⟩
  refine ⟨if_pos hc, ?_⟩
  by_cases hlast : s.dma.idx + 1 = 160 <;> simp [dmaPhase, hc, hlast, ha, hs]

theorem tick_dma (s : State) : (tick s).dma = (dmaPhase s).dma := rfl

theorem tick_mem (s : State) : (tick s).mem = (dmaPhase s).mem := rfl

/-- A transfer of the bytes `bytes` from `src`, begun over the OAM contents `old`, has started up and copied `n` of its 160 bytes. -/
structure DmaCopied (src : Word) (bytes : Nat → Byte) (old : Memory) (n : Nat) (u : State) : Prop where
  src : u.dma.src = src
  started : u.dma.started = true
  idx : u.dma.idx = n
  active : u.dma.active = true ↔ n < 160
  oam : ∀ i, u.mem.oam.read i = if i < n then bytes i else old.read i

/-- The bus cycle after a write of 0xFF46 starts the transfer up. -/
theorem dmaCopied_startUp (s : State) (v : Byte) (bytes : Nat → Byte) :
    DmaCopied (word v 0) bytes s.mem.oam 0 (tick (write8 s 0xFF46 v)) := by
  rw [write8_dma]
  constructor <;> simp [Dma.copies]

/-- Each further bus cycle copies the next byte. -/
theorem DmaCopied.tick {src : Word} {bytes : Nat → Byte} {old : Memory} {n : Nat} {u : State} (h : DmaCopied src bytes old n u)
    (hn : n < 160) (hb : read8 u (src + BitVec.ofNat 16 n) = bytes n) : DmaCopied src bytes old (n + 1) (tick u) := by
  obtain ⟨hoam, hdma⟩ := dmaPhase_copy (h.active.mpr hn) h.started
  rw [← tick_mem, h.src, h.idx, hb] at hoam
  rw [← tick_dma, h.idx] at hdma
  constructor
  · rw [hdma, ← h.src]
  · rw [hdma, ← h.started]
  · rw [hdma]
  · rw [hdma]
    exact decide_eq_true_iff.trans (by omega)
  · intro i
    rw [hoam]
    by_cases hi : i = n
    · rw [hi, Memory.read_write_same, if_pos n.lt_succ_self]
    · rw [Memory.read_write_other _ _ hi, h.oam]
      exact if_congr (by omega) rfl rfl

theorem word_zero_toNat (v : Byte) : (word v 0).toNat = v.toNat * 256 :=
  (BitVec.toNat_append v 0#8).trans (by simp [Nat.shiftLeft_eq])

/-- A source that time does not change does not hold the DMA register: the page of the I/O registers begins with P1. -/
theorem dmaSource_ne_dmaReg {s : State} {v : Byte} {i : Nat} (hi : i < 160) (h : steady s (word v 0) = true) :
    word v 0 + BitVec.ofNat 16 i ≠ 0xFF46 := by
  intro he
  have hv : v = 0xFF := by
    have hlt := v.isLt
    have hn : (word v 0 + BitVec.ofNat 16 i).toNat = 0xFF46 := congrArg BitVec.toNat he
    rw [BitVec.toNat_add, word_zero_toNat, BitVec.toNat_ofNat] at hn
    exact BitVec.eq_of_toNat_eq (show v.toNat = 255 by omega)
  subst hv
  cases h

/-- The DMA engine makes OAM unsteady, and nothing else. -/
theorem steady_setDma (s : State) (d : Dma) {b : Word} (h : region b ≠ .oam) : steady { s with dma := d } b = steady s b := by
  unfold steady
  cases hr : region b
  case oam => exact absurd hr h
  all_goals rfl

/-- A write of the DMA register leaves every other address alone that is steady while the transfer runs. -/
theorem read8_write8_dma {s : State} {v : Byte} {b : Word} (hb : b ≠ 0xFF46) (h : steady (write8 s 0xFF46 v) b = true) :
    read8 (write8 s 0xFF46 v) b = read8 s b := by
  rw [write8_dma] at h
  have hoam : region b ≠ .oam := fun hr => by simp [steady, hr] at h
  refine read8_write8_other v (steady_setDma s _ hoam ▸ h) ?_
  show (b == 0xFF46 || region b == .oam) = false
  rw [beq_false_of_ne hb, beq_false_of_ne hoam]
  rfl

/-- From a source that time does not change, `n + 1` bus cycles after the write copy its first `n` bytes. -/
theorem dmaCopied_elapse {s : State} {v : Byte} {n : Nat} (hn : n ≤ 160)
    (hs : ∀ i < 160, steady (write8 s 0xFF46 v) (word v 0 + BitVec.ofNat 16 i) = true) :
    DmaCopied (word v 0) (fun i => read8 s (word v 0 + BitVec.ofNat 16 i)) s.mem.oam n (elapse (n + 1) (write8 s 0xFF46 v)) := by
  have h0 : steady (write8 s 0xFF46 v) (word v 0) = true := by simpa using hs 0 (by decide)
  induction n with
  | zero => exact dmaCopied_startUp s v _
  | succ n ih =>
    rw [elapse_succ]
    refine (ih (by omega)).tick (by omega) ?_
    rw [read8_elapse _ (hs n (by omega)), read8_write8_dma (dmaSource_ne_dmaReg (by omega) h0) (hs n (by omega))]

/-- Settles O39: the two kinds of DMA phase, and from them, by induction on the bus cycles, what a transfer has copied. -/
theorem oamDma : Obligations.OamDma := by
  unfold Obligations.OamDma
  refine ⟨write8_dma, fun s ha => ⟨dmaPhase_startUp ha, dmaPhase_copy ha⟩, fun s v n hn hs => ?_⟩
  have h := dmaCopied_elapse hn fun i hi => hs (⟨i, hi⟩ : Fin 160)
  exact ⟨h.idx, h.active, fun i => h.oam i⟩

end Sys2Proof.Machine
end


section
/-! The cartridge controllers (R212 to R258): what each window of each controller reads and what a write there changes. -/

namespace Sys2Proof.Machine

/-! ## The cartridge's windows of the map (R126, R127, R213) -/

theorem write8_rom (s : State) {a : Word} (v : Byte) (h : a.toNat < 0x8000) :
    write8 s a v = { s with cart := s.cart.intercept s.env.now a v } := by
  unfold write8; rw [region_rom h]

theorem read8_romLow (s : State) {a : Word} (h : a.toNat < 0x4000) :
    read8 s a = s.cart.rom.read (s.cart.lowBank * 0x4000 + a.toNat) := by
  rw [read8_rom s (by omega), Cart.romOffset, if_pos h]

theorem read8_romHigh (s : State) {a : Word} (h0 : 0x4000 ≤ a.toNat) (h1 : a.toNat < 0x8000) :
    read8 s a = s.cart.rom.read (s.cart.highBank * 0x4000 + (a.toNat - 0x4000)) := by
  rw [read8_rom s h1, Cart.romOffset, if_neg (by omega), offset_of_le (base := 0x4000) h0]
  rfl

theorem ramIndex_eq {a : Word} (h : 0xA000 ≤ a.toNat) : ramIndex a = a.toNat - 0xA000 := offset_of_le (base := 0xA000) h

section
variable {s : State} {a : Word} (h0 : 0xA000 ≤ a.toNat) (h1 : a.toNat < 0xC000)
include h0 h1

theorem read8_ramWindow : read8 s a = s.cart.readRam s.env.now (a.toNat - 0xA000) := by
  unfold read8; rw [region_eq (r := .cartRam) h0 h1, ← ramIndex_eq h0]

theorem write8_ramWindow (v : Byte) :
    write8 s a v = { s with cart := s.cart.writeRam s.env.now (a.toNat - 0xA000) v } := by
  unfold write8; rw [region_eq (r := .cartRam) h0 h1, ← ramIndex_eq h0]

/-- The fallback of R215. -/
theorem ramWindowClosed_of_target (ht : s.cart.ramTarget (a.toNat - 0xA000) = .closed) : RamWindowClosed s a := by
  constructor
  · rw [read8_ramWindow h0 h1, Cart.readRam, ht]
  · intro v
    rw [write8_ramWindow h0 h1, Cart.writeRam, ht]

/-- Inside the array the byte, beyond it the fallback (R215). -/
theorem ramWindowAt_of_target {o : Nat} (ht : s.cart.ramTarget (a.toNat - 0xA000) = s.cart.extTarget o) : RamWindowAt s a o := by
  by_cases ho : o < s.cart.ramSize
  · rw [Cart.extTarget, if_pos ho] at ht
    constructor
    · rw [if_pos ho, read8_ramWindow h0 h1, Cart.readRam, ht]
    · intro v
      rw [if_pos ho, write8_ramWindow h0 h1, Cart.writeRam, ht]
  · rw [Cart.extTarget, if_neg ho] at ht
    obtain ⟨hread, hwrite⟩ := ramWindowClosed_of_target h0 h1 ht
    constructor
    · rw [if_neg ho, hread]
    · intro v
      rw [if_neg ho, hwrite]

/-- A RAM window behind a gate (R217). -/
theorem ramWindow_gated {enabled : Bool} {o : Nat}
    (ht : s.cart.ramTarget (a.toNat - 0xA000) = if enabled then s.cart.extTarget o else .closed) :
    (enabled = false → RamWindowClosed s a) ∧ (enabled = true → RamWindowAt s a o) := by
  constructor
  · rintro rfl
    exact ramWindowClosed_of_target h0 h1 ht
  · rintro rfl
    exact ramWindowAt_of_target h0 h1 ht

end

/-! ## Values of registers -/

/-- The gate opens on a low nibble of 0xA (R217). -/
theorem ramGate_eq (v : Byte) : ramGate v = decide (v.toNat % 16 = 10) := by
  revert v; decide

theorem getLsbD_zero_eq (v : Byte) : v.getLsbD 0 = decide (v.toNat % 2 = 1) := by
  rw [BitVec.getLsbD, Nat.testBit_zero]

/-- A ROM register of `w` bits holds the low bits of the value, 1 for 0 (R222, R231). -/
theorem toNat_setWidth_or_one {w : Nat} (hw : 1 < 2 ^ w) (v : Byte) :
    (if v.setWidth w = 0 then 1 else v.setWidth w : BitVec w).toNat = if v.toNat % 2 ^ w = 0 then 1 else v.toNat % 2 ^ w := by
  have hz : v.setWidth w = 0 ↔ v.toNat % 2 ^ w = 0 := by
    rw [← BitVec.toNat_inj, BitVec.toNat_setWidth]
    simp
  rw [apply_ite BitVec.toNat, BitVec.toNat_setWidth]
  refine if_congr hz ?_ rfl
  simp [Nat.mod_eq_of_lt hw]

/-- The nine-bit ROM register with another low byte (R256). -/
theorem toNat_withLowByte (r : BitVec 9) (v : Byte) :
    (BitVec.ofBool (r.getLsbD 8) ++ v).toNat = r.toNat / 256 * 256 + v.toNat := by
  have hr := r.isLt
  rw [BitVec.toNat_append, ← Nat.shiftLeft_add_eq_or_of_lt v.isLt, Nat.shiftLeft_eq, BitVec.toNat_ofBool, BitVec.getLsbD,
    Nat.testBit_eq_decide_div_mod_eq]
  by_cases hb : r.toNat / 256 % 2 = 1 <;> simp [hb] <;> omega

/-- The nine-bit ROM register with another bit 8 (R256). -/
theorem toNat_withBitEight (r : BitVec 9) (v : Byte) :
    (BitVec.ofBool (v.getLsbD 0) ++ r.setWidth 8).toNat = v.toNat % 2 * 256 + r.toNat % 256 := by
  rw [BitVec.toNat_append, ← Nat.shiftLeft_add_eq_or_of_lt (r.setWidth 8).isLt, Nat.shiftLeft_eq, BitVec.toNat_setWidth,
    BitVec.toNat_ofBool, getLsbD_zero_eq]
  by_cases hb : v.toNat % 2 = 1 <;> simp [hb]
  omega

/-! ## MBC1 (R221 to R225) -/

section
variable {m : Mbc1} {a : Word} {v : Byte}

theorem Mbc1.intercept_ramGate (h : a.toNat < 0x2000) :
    m.intercept a v = { m with ramEnabled := decide (v.toNat % 16 = 10) } := by
  rw [Mbc1.intercept, if_pos h, ramGate_eq]

theorem Mbc1.intercept_romReg (h0 : 0x2000 ≤ a.toNat) (h1 : a.toNat < 0x4000) :
    m.intercept a v = { m with romReg := if v.setWidth 5 = 0 then 1 else v.setWidth 5 } := by
  rw [Mbc1.intercept, if_neg (by omega), if_pos h1]

theorem Mbc1.intercept_ramReg (h0 : 0x4000 ≤ a.toNat) (h1 : a.toNat < 0x6000) :
    m.intercept a v = { m with ramReg := v.setWidth 2 } := by
  rw [Mbc1.intercept, if_neg (by omega), if_neg (by omega), if_pos h1]

theorem Mbc1.intercept_mode (h0 : 0x6000 ≤ a.toNat) : m.intercept a v = { m with mode := decide (v.toNat % 2 = 1) } := by
  rw [Mbc1.intercept, if_neg (by omega), if_neg (by omega), if_neg (by omega), getLsbD_zero_eq]

variable {s : State} (hm : s.cart.mbc = .mbc1 m)
include hm

theorem write8_mbc1 (v : Byte) (h : a.toNat < 0x8000) :
    write8 s a v = { s with cart := { s.cart with mbc := .mbc1 (m.intercept a v) } } := by
  rw [write8_rom s v h, Cart.intercept, if_pos h, hm]

theorem lowBank_mbc1 : s.cart.lowBank = if m.mode then (m.ramReg.toNat * 32) &&& s.cart.romMask else 0 := by
  simp only [Cart.lowBank, hm, Nat.shiftLeft_eq, Nat.reducePow]

/-- The two registers side by side are the bank number in ROM-banking mode (R224). -/
theorem highBank_mbc1 :
    s.cart.highBank = (if m.mode then m.romReg.toNat else m.ramReg.toNat * 32 + m.romReg.toNat) &&& s.cart.romMask := by
  have hbank : m.ramReg.toNat <<< 5 ||| m.romReg.toNat = m.ramReg.toNat * 32 + m.romReg.toNat := by
    rw [← Nat.shiftLeft_add_eq_or_of_lt m.romReg.isLt, Nat.shiftLeft_eq]
  simp only [Cart.highBank, hm, hbank]
  cases m.mode <;> rfl

theorem ramTarget_mbc1 (o : Nat) : s.cart.ramTarget o = if m.ramEnabled then
    s.cart.extTarget ((if m.mode then min m.ramReg.toNat (s.cart.ramBankCount - 1) else 0) * 0x2000 + o) else .closed := by
  rw [Cart.ramTarget, hm]
  rfl

end

/-- Settles O42: each register window by its branch of the write, each ROM window by its bank, the RAM window by what it reaches. -/
theorem mbc1Registers : Obligations.Mbc1Registers := by
  unfold Obligations.Mbc1Registers
  intro s m a hm
  refine ⟨fun v => ⟨fun h => ?_, fun h0 h1 => ⟨_, toNat_setWidth_or_one (by decide) v, ?_⟩,
    fun h0 h1 => ⟨_, BitVec.toNat_setWidth 2 v, ?_⟩, fun h0 h1 => ?_⟩, fun h => ?_, fun h0 h1 => ?_,
    fun h0 h1 => ramWindow_gated h0 h1 (ramTarget_mbc1 hm _)⟩
  · rw [write8_mbc1 hm v (by omega), Mbc1.intercept_ramGate h]
  · rw [write8_mbc1 hm v (by omega), Mbc1.intercept_romReg h0 h1]
  · rw [write8_mbc1 hm v (by omega), Mbc1.intercept_ramReg h0 h1]
  · rw [write8_mbc1 hm v h1, Mbc1.intercept_mode h0]
  · rw [read8_romLow s h, lowBank_mbc1 hm]
  · rw [read8_romHigh s h0 h1, highBank_mbc1 hm]

/-! ## MBC2 (R230 to R233) -/

section
variable {m : Mbc2} {a : Word} {v : Byte}

theorem Mbc2.intercept_ramGate (h : a.toNat < 0x4000) (hb : a.getLsbD 8 = false) :
    m.intercept a v = { m with ramEnabled := decide (v.toNat % 16 = 10) } := by
  rw [Mbc2.intercept, if_pos h, if_neg (ne_true_of_eq_false hb), ramGate_eq]

theorem Mbc2.intercept_romReg (h : a.toNat < 0x4000) (hb : a.getLsbD 8 = true) :
    m.intercept a v = { m with romReg := if v.setWidth 4 = 0 then 1 else v.setWidth 4 } := by
  rw [Mbc2.intercept, if_pos h, if_pos hb]

theorem Mbc2.intercept_high (h : 0x4000 ≤ a.toNat) : m.intercept a v = m := by
  rw [Mbc2.intercept, if_neg (by omega)]

variable {s : State} (hm : s.cart.mbc = .mbc2 m)
include hm

theorem write8_mbc2 (v : Byte) (h : a.toNat < 0x8000) :
    write8 s a v = { s with cart := { s.cart with mbc := .mbc2 (m.intercept a v) } } := by
  rw [write8_rom s v h, Cart.intercept, if_pos h, hm]

theorem lowBank_mbc2 : s.cart.lowBank = 0 := by rw [Cart.lowBank, hm]

theorem highBank_mbc2 : s.cart.highBank = m.romReg.toNat &&& s.cart.romMask := by rw [Cart.highBank, hm]

theorem ramTarget_mbc2 (o : Nat) : s.cart.ramTarget o = if m.ramEnabled then .cell (o % 512) else .closed := by
  rw [Cart.ramTarget, hm]

/-- The open RAM window reaches the 512 cells, again and again (R233). -/
theorem ramWindow_cells (he : m.ramEnabled = true) (h0 : 0xA000 ≤ a.toNat) (h1 : a.toNat < 0xC000) :
    read8 s a = 0xF0 ||| m.cells.read ((a.toNat - 0xA000) % 512) ∧ ∀ v : Byte, write8 s a v =
      { s with cart := { s.cart with mbc := .mbc2 { m with cells := m.cells.write ((a.toNat - 0xA000) % 512) (v &&& 0x0F) } } } := by
  have ht := ramTarget_mbc2 hm (a.toNat - 0xA000)
  rw [if_pos he] at ht
  constructor
  · rw [read8_ramWindow h0 h1, Cart.readRam, ht, hm]
    rfl
  · intro v
    rw [write8_ramWindow h0 h1, Cart.writeRam, ht, hm]
    rfl

end

/-- Settles O43: bit 8 of the address picks the branch of a write; the RAM window reaches a cell by its index modulo 512. -/
theorem mbc2Registers : Obligations.Mbc2Registers := by
  unfold Obligations.Mbc2Registers
  intro s m a hm
  refine ⟨fun v => ⟨fun h hb => ?_, fun h hb => ⟨_, toNat_setWidth_or_one (by decide) v, ?_⟩, fun h0 h1 => ?_⟩, fun h => ?_,
    fun h0 h1 => ?_, fun h0 h1 => ⟨fun he => ?_, fun he => ramWindow_cells hm he h0 h1⟩⟩
  · rw [write8_mbc2 hm v (by omega), Mbc2.intercept_ramGate h hb]
  · rw [write8_mbc2 hm v (by omega), Mbc2.intercept_romReg h hb]
  · rw [write8_mbc2 hm v h1, Mbc2.intercept_high h0, ← hm]
  · rw [read8_romLow s h, lowBank_mbc2 hm, Nat.zero_mul, Nat.zero_add]
  · rw [read8_romHigh s h0 h1, highBank_mbc2 hm]
  · exact ramWindowClosed_of_target h0 h1 (by rw [ramTarget_mbc2 hm, he]; rfl)

/-! ## MBC3 and MBC30 (R240 to R246) -/

section
variable {m : Mbc3} {mask now : Nat} {a : Word} {v : Byte}

theorem Mbc3.intercept_ramGate (h : a.toNat < 0x2000) :
    m.intercept mask now a v = { m with ramEnabled := decide (v.toNat % 16 = 10) } := by
  rw [Mbc3.intercept, if_pos h, ramGate_eq]

/-- MBC30 keeps all eight bits of the ROM register, MBC3 seven (R242). -/
theorem Mbc3.writeRomReg_eq (m : Mbc3) (mask : Nat) (v : Byte) : ∃ r : Byte,
    r = (if v = 0 ∧ m.romBank &&& 0x60 = 0 then 1 else if m.wide then v else v &&& 0x7F) ∧
    m.writeRomReg mask v = { m with romReg := r, romBank := r &&& BitVec.ofNat 8 mask } := by
  have hkept : v &&& (if m.wide then 0xFF else 0x7F) = if m.wide then v else v &&& 0x7F := by
    cases m.wide
    · rfl
    · exact BitVec.and_allOnes
  exact ⟨_, hkept ▸ rfl, rfl⟩

theorem Mbc3.intercept_romReg (h0 : 0x2000 ≤ a.toNat) (h1 : a.toNat < 0x4000) :
    m.intercept mask now a v = m.writeRomReg mask v := by
  rw [Mbc3.intercept, if_neg (by omega), if_pos h1]

theorem Mbc3.intercept_ramReg (h0 : 0x4000 ≤ a.toNat) (h1 : a.toNat < 0x6000) :
    m.intercept mask now a v = { m with ramReg := v } := by
  rw [Mbc3.intercept, if_neg (by omega), if_neg (by omega), if_pos h1]

theorem Mbc3.intercept_latch (h0 : 0x6000 ≤ a.toNat) : m.intercept mask now a v = m.writeLatch now v := by
  rw [Mbc3.intercept, if_neg (by omega), if_neg (by omega), if_neg (by omega)]

/-- The RAM-bank values of the clock (R243). -/
theorem selectsClock_iff (v : Byte) : selectsClock v = true ↔ 0x08 ≤ v.toNat ∧ v.toNat ≤ 0x0C := by
  simp [selectsClock]

variable {s : State} (hm : s.cart.mbc = .mbc3 m)
include hm

theorem write8_mbc3 (v : Byte) (h : a.toNat < 0x8000) : write8 s a v =
    { s with cart := { s.cart with mbc := .mbc3 (m.intercept s.cart.romMask s.env.now a v) } } := by
  rw [write8_rom s v h, Cart.intercept, if_pos h, hm]

theorem lowBank_mbc3 : s.cart.lowBank = 0 := by rw [Cart.lowBank, hm]

theorem highBank_mbc3 : s.cart.highBank = m.romBank.toNat := by rw [Cart.highBank, hm]

theorem ramTarget_mbc3 (o : Nat) : s.cart.ramTarget o = if m.ramEnabled then
      if selectsClock m.ramReg then (if m.rtc.isSome then .clock m.ramReg else .closed)
      else s.cart.extTarget (min m.ramReg.toNat (s.cart.ramBankCount - 1) * 0x2000 + o)
    else .closed := by
  rw [Cart.ramTarget, hm]
  rfl

/-- The RAM window where it reaches a register of the clock (R246). -/
theorem ramWindow_clock {r : Rtc} (he : m.ramEnabled = true) (hc : selectsClock m.ramReg = true) (hr : m.rtc = some r)
    (h0 : 0xA000 ≤ a.toNat) (h1 : a.toNat < 0xC000) :
    read8 s a = r.read s.env.now m.ramReg ∧ ∀ v, write8 s a v =
      { s with cart := { s.cart with mbc := .mbc3 { m with rtc := some (r.write s.env.now m.ramReg v) } } } := by
  have ht := ramTarget_mbc3 hm (a.toNat - 0xA000)
  rw [if_pos he, if_pos hc, hr] at ht
  constructor
  · rw [read8_ramWindow h0 h1, Cart.readRam, ht, hm]
    simp [Mbc.clock, hr]
  · intro v
    rw [write8_ramWindow h0 h1, Cart.writeRam, ht, hm]
    simp [Mbc.mapClock, hr]

end

/-- Settles O44: each register window by its branch of the write; the RAM window by the gate, the RAM register and the clock. -/
theorem mbc3Registers : Obligations.Mbc3Registers := by
  unfold Obligations.Mbc3Registers
  intro s m a hm
  refine ⟨fun v => ⟨fun h => ?_, fun h0 h1 => ?_, fun h0 h1 => ?_, fun h0 h1 => ?_⟩, fun h => ?_, fun h0 h1 => ?_,
    fun h0 h1 => ⟨fun he => ?_, fun he hc hr => ?_,
      fun r he hc hr => ramWindow_clock hm he ((selectsClock_iff _).mpr hc) hr h0 h1, fun he hc => ?_⟩⟩
  · rw [write8_mbc3 hm v (by omega), Mbc3.intercept_ramGate h]
  · obtain ⟨r, hr, hw⟩ := m.writeRomReg_eq s.cart.romMask v
    exact ⟨r, hr, by rw [write8_mbc3 hm v (by omega), Mbc3.intercept_romReg h0 h1, hw]⟩
  · rw [write8_mbc3 hm v (by omega), Mbc3.intercept_ramReg h0 h1]
  · rw [write8_mbc3 hm v h1, Mbc3.intercept_latch h0, Mbc3.writeLatch]
    split_ifs <;> rfl
  · rw [read8_romLow s h, lowBank_mbc3 hm, Nat.zero_mul, Nat.zero_add]
  · rw [read8_romHigh s h0 h1, highBank_mbc3 hm]
  · exact ramWindowClosed_of_target h0 h1 (by rw [ramTarget_mbc3 hm, he]; rfl)
  · exact ramWindowClosed_of_target h0 h1 (by rw [ramTarget_mbc3 hm, if_pos he, if_pos ((selectsClock_iff _).mpr hc), hr]; rfl)
  · exact ramWindowAt_of_target h0 h1 (by rw [ramTarget_mbc3 hm, if_pos he, if_neg (mt (selectsClock_iff _).mp hc)])

/-! ## MBC5 (R255 to R258) -/

section
variable {m : Mbc5} {a : Word} {v : Byte}

theorem Mbc5.intercept_ramGate (h : a.toNat < 0x2000) :
    m.intercept a v = { m with ramEnabled := decide (v.toNat % 16 = 10) } := by
  rw [Mbc5.intercept, if_pos h, ramGate_eq]

theorem Mbc5.intercept_romLow (h0 : 0x2000 ≤ a.toNat) (h1 : a.toNat < 0x3000) :
    m.intercept a v = { m with romReg := BitVec.ofBool (m.romReg.getLsbD 8) ++ v } := by
  rw [Mbc5.intercept, if_neg (by omega), if_pos h1]

theorem Mbc5.intercept_romHigh (h0 : 0x3000 ≤ a.toNat) (h1 : a.toNat < 0x4000) :
    m.intercept a v = { m with romReg := BitVec.ofBool (v.getLsbD 0) ++ m.romReg.setWidth 8 } := by
  rw [Mbc5.intercept, if_neg (by omega), if_neg (by omega), if_pos h1]

theorem Mbc5.intercept_ramReg (h0 : 0x4000 ≤ a.toNat) (h1 : a.toNat < 0x6000) :
    m.intercept a v = { m with ramReg := v.setWidth 4 } := by
  rw [Mbc5.intercept, if_neg (by omega), if_neg (by omega), if_neg (by omega), if_pos h1]

theorem Mbc5.intercept_high (h : 0x6000 ≤ a.toNat) : m.intercept a v = m := by
  rw [Mbc5.intercept, if_neg (by omega), if_neg (by omega), if_neg (by omega), if_neg (by omega)]

variable {s : State} (hm : s.cart.mbc = .mbc5 m)
include hm

theorem write8_mbc5 (v : Byte) (h : a.toNat < 0x8000) :
    write8 s a v = { s with cart := { s.cart with mbc := .mbc5 (m.intercept a v) } } := by
  rw [write8_rom s v h, Cart.intercept, if_pos h, hm]

theorem lowBank_mbc5 : s.cart.lowBank = 0 := by rw [Cart.lowBank, hm]

theorem highBank_mbc5 : s.cart.highBank = m.romReg.toNat &&& s.cart.romMask := by rw [Cart.highBank, hm]

theorem ramTarget_mbc5 (o : Nat) : s.cart.ramTarget o =
    if m.ramEnabled then s.cart.extTarget (min m.ramReg.toNat (s.cart.ramBankCount - 1) * 0x2000 + o) else .closed := by
  rw [Cart.ramTarget, hm]
  rfl

end

/-! ## The None controller (R218) -/

section
variable {s : State} {a : Word} (hm : s.cart.mbc = .none)
include hm

theorem write8_none (v : Byte) (h : a.toNat < 0x8000) : write8 s a v = s := by
  rw [write8_rom s v h, Cart.intercept, if_pos h, hm]

theorem lowBank_none : s.cart.lowBank = 0 := by rw [Cart.lowBank, hm]

theorem highBank_none : s.cart.highBank = 1 := by rw [Cart.highBank, hm]

/-- Bank 0 and bank 1 in their windows are the identity. -/
theorem romOffset_none : s.cart.romOffset a = a.toNat := by
  by_cases hlow : a.toNat < 0x4000
  · rw [Cart.romOffset, if_pos hlow, lowBank_none hm, Nat.zero_mul, Nat.zero_add]
  · rw [Cart.romOffset, if_neg hlow, highBank_none hm, offset_of_le (base := 0x4000) (Nat.not_lt.mp hlow), Nat.one_mul]
    exact Nat.add_sub_of_le (Nat.not_lt.mp hlow)

theorem ramTarget_none (o : Nat) : s.cart.ramTarget o = s.cart.extTarget o := by rw [Cart.ramTarget, hm]

end

/-- Settles O45: MBC5's windows by the branches of its write, its banks and its RAM target; the None controller's by the identity. -/
theorem mbc5AndNone : Obligations.Mbc5AndNone := by
  unfold Obligations.Mbc5AndNone
  intro s a
  refine ⟨fun m hm => ⟨fun v => ⟨fun h => ?_, fun h0 h1 => ⟨_, toNat_withLowByte m.romReg v, ?_⟩,
    fun h0 h1 => ⟨_, toNat_withBitEight m.romReg v, ?_⟩, fun h0 h1 => ⟨_, BitVec.toNat_setWidth 4 v, ?_⟩, fun h0 h1 => ?_⟩,
    fun h => ?_, fun h0 h1 => ?_, fun h0 h1 => ramWindow_gated h0 h1 (ramTarget_mbc5 hm _)⟩,
    fun hm => ⟨fun h => ⟨?_, fun v => write8_none hm v h⟩, fun h0 h1 => ramWindowAt_of_target h0 h1 (ramTarget_none hm _)⟩⟩
  · rw [write8_mbc5 hm v (by omega), Mbc5.intercept_ramGate h]
  · rw [write8_mbc5 hm v (by omega), Mbc5.intercept_romLow h0 h1]
  · rw [write8_mbc5 hm v (by omega), Mbc5.intercept_romHigh h0 h1]
  · rw [write8_mbc5 hm v (by omega), Mbc5.intercept_ramReg h0 h1]
  · rw [write8_mbc5 hm v h1, Mbc5.intercept_high h0, ← hm]
  · rw [read8_romLow s h, lowBank_mbc5 hm, Nat.zero_mul, Nat.zero_add]
  · rw [read8_romHigh s h0 h1, highBank_mbc5 hm]
  · rw [read8_rom s h, romOffset_none hm]

end Sys2Proof.Machine
end


section
/-! The checks of a load (R202 to R209). -/

namespace Sys2Proof.Machine

/-! ## The three header codes -/

/-- The type bytes outside the table (R209). -/
theorem cartType_isNone_iff (c : Byte) : (cartType c).isNone = true ↔ c.toNat ∉
    [0x00, 0x01, 0x02, 0x03, 0x05, 0x06, 0x08, 0x09, 0x0F, 0x10, 0x11, 0x12, 0x13, 0x19, 0x1A, 0x1B, 0x1C, 0x1D, 0x1E] := by
  have hcodes : (cartType c).isNone = true ↔ c.toNat ∉ cartTypes.map (·.code.toNat) := by
    simp [cartType, BitVec.toNat_inj]
  exact hcodes

theorem declaredRomSize_of_le {c : Byte} (h : c.toNat ≤ 7) : declaredRomSize c = some (32768 * 2 ^ c.toNat) := if_pos h

theorem declaredRomSize_of_gt {c : Byte} (h : 7 < c.toNat) : declaredRomSize c = none := if_neg (by omega)

theorem declaredRamSize_isNone_iff (c : Byte) : (declaredRamSize c).isNone = true ↔ 5 < c.toNat := by
  revert c; decide

/-! ## The status -/

section
variable {q : LoadRequest} {image : List Byte} (hs : q.stream = some image)
include hs

theorem loadStatus_of_tooBig (h : 4194304 < image.length) : loadStatus q = .romTooBig := by
  simp only [loadStatus, hs]
  exact if_pos h

theorem loadStatus_of_short (h : image.length < 0x0150) : loadStatus q = .romParseError := by
  have hsize : ¬ maxRomSize < image.length := by
    unfold maxRomSize
    omega
  simp only [loadStatus, hs, if_neg hsize, if_pos h]

variable (h0 : 0x0150 ≤ image.length) (h1 : image.length ≤ 4194304)
include h0 h1

theorem loadStatus_of_romCode_gt (h : 7 < (headerByte image 0x0148).toNat) : loadStatus q = .romParseError := by
  simp only [loadStatus, hs, declaredRomSize_of_gt h, if_neg (Nat.not_lt.mpr h0), if_neg (show ¬ maxRomSize < _ from h1.not_gt)]

/-- What is left to check of an image of a good length with a good ROM size code (R204). -/
theorem loadStatus_of_romCode_le (h : (headerByte image 0x0148).toNat ≤ 7) : loadStatus q =
    if q.strictSize = true ∧ image.length ≠ 32768 * 2 ^ (headerByte image 0x0148).toNat then .romSizeMismatch
    else if (cartType (headerByte image 0x0147)).isNone then .romUnsupportedMbc
    else if (declaredRamSize (headerByte image 0x0149)).isNone then .ramSizeUnsupported
    else .loaded := by
  simp only [loadStatus, hs, declaredRomSize_of_le h, if_neg (Nat.not_lt.mpr h0), if_neg (show ¬ maxRomSize < _ from h1.not_gt)]

end

/-- The status Loaded says that there is an image and that the three codes of its header are known (R204). -/
theorem header_of_loaded {q : LoadRequest} (h : loadStatus q = .loaded) : ∃ image t rom ram, q.stream = some image ∧
    cartType (headerByte image 0x0147) = some t ∧ declaredRomSize (headerByte image 0x0148) = some rom ∧
    declaredRamSize (headerByte image 0x0149) = some ram := by
  unfold loadStatus at h
  split at h
  · cases h
  · next image hs =>
    cases hrom : declaredRomSize (headerByte image 0x0148) with
    | none =>
      simp only [hrom] at h
      split_ifs at h
    | some rom =>
      simp only [hrom] at h
      split_ifs at h with _ _ _ hkind hram
      obtain ⟨t, ht⟩ := Option.ne_none_iff_exists'.mp (mt Option.isNone_iff_eq_none.mpr hkind)
      obtain ⟨ram, hram⟩ := Option.ne_none_iff_exists'.mp (mt Option.isNone_iff_eq_none.mpr hram)
      exact ⟨image, t, rom, ram, hs, ht, hrom, hram⟩

/-- A load yields a machine exactly where its status is Loaded (R202). -/
theorem load_isSome_iff (q : LoadRequest) : (load q).2.isSome = true ↔ loadStatus q = .loaded := by
  rw [load, Option.isSome_map]
  constructor
  · intro h
    by_contra hn
    rw [loadCart, if_neg hn] at h
    cases h
  · intro h
    obtain ⟨image, t, rom, ram, hs, ht, hrom, hram⟩ := header_of_loaded h
    simp [loadCart, h, hs, ht, hrom, hram]

/-- Settles O51: the checks one after the other, the last three by the branches that are left. -/
theorem loadStatusOrder : Obligations.LoadStatusOrder := by
  unfold Obligations.LoadStatusOrder
  refine fun q => ⟨load_isSome_iff q, fun hs => by rw [loadStatus, hs], fun image hs => ⟨loadStatus_of_tooBig hs,
    loadStatus_of_short hs, fun h0 h1 => ⟨loadStatus_of_romCode_gt hs h0 h1, fun hrom hsize => ?_, fun hrom hsize hkind => ?_,
    fun hrom hsize hkind hram => ?_, fun hrom hsize hkind hram => ?_⟩⟩⟩
  · rw [loadStatus_of_romCode_le hs h0 h1 hrom, if_pos hsize]
  · rw [loadStatus_of_romCode_le hs h0 h1 hrom, if_neg hsize, if_pos ((cartType_isNone_iff _).mpr hkind)]
  · rw [loadStatus_of_romCode_le hs h0 h1 hrom, if_neg hsize, if_neg (mt (cartType_isNone_iff _).mp (not_not_intro hkind)),
      if_pos ((declaredRamSize_isNone_iff _).mpr hram)]
  · rw [loadStatus_of_romCode_le hs h0 h1 hrom, if_neg hsize, if_neg (mt (cartType_isNone_iff _).mp (not_not_intro hkind)),
      if_neg (mt (declaredRamSize_isNone_iff _).mp hram.not_gt)]

end Sys2Proof.Machine
end


section
/-! The real-time clock (R281 to R295): its normalisation, what its registers read, and what a write or a latch does to it. -/

namespace Sys2Proof.Machine

/-! ## The fields of a time (R283) -/

@[simp] theorem toNat_timeS (t : Int) : ((timeS t).toNat : Int) = t % 60 := by
  rw [timeS, BitVec.toNat_ofInt]
  omega

@[simp] theorem toNat_timeM (t : Int) : ((timeM t).toNat : Int) = t / 60 % 60 := by
  rw [timeM, BitVec.toNat_ofInt]
  omega

@[simp] theorem toNat_timeH (t : Int) : ((timeH t).toNat : Int) = t / 3600 % 24 := by
  rw [timeH, BitVec.toNat_ofInt]
  omega

@[simp] theorem toNat_timeD (t : Int) : ((timeD t).toNat : Int) = t / 86400 % 512 := by
  rw [timeD, secondsPerDay, BitVec.toNat_ofInt]
  omega

/-- The overflow period is a whole number of minutes, hours, days and turns of the day counter. -/
theorem timeFields_congr {t t' : Int} (h : t % overflowPeriod = t' % overflowPeriod) :
    timeS t = timeS t' ∧ timeM t = timeM t' ∧ timeH t = timeH t' ∧ timeD t = timeD t' := by
  rw [overflowPeriod] at h
  simp only [timeS, timeM, timeH, timeD, secondsPerDay]
  refine ⟨congrArg _ ?_, congrArg _ ?_, congrArg _ ?_, congrArg _ ?_⟩ <;> omega

/-- The seconds that four fields stand for (R291). -/
def timeOfFields (d : BitVec 9) (h : BitVec 5) (m s : BitVec 6) : Int :=
  (d.toNat : Int) * 86400 + (h.toNat : Int) * 3600 + (m.toNat : Int) * 60 + (s.toNat : Int)

/-- The fields of a time determine it up to the overflow period. -/
theorem timeOfFields_time (t : Int) : timeOfFields (timeD t) (timeH t) (timeM t) (timeS t) = t % overflowPeriod := by
  simp only [timeOfFields, toNat_timeD, toNat_timeH, toNat_timeM, toNat_timeS, overflowPeriod]
  omega

/-! ## The day number's bit 8 (R287) -/

@[simp] theorem getLsbD_eight_ofBool_append (b : Bool) (v : Byte) : (BitVec.ofBool b ++ v).getLsbD 8 = b := by
  rw [BitVec.getLsbD_append, if_neg (by decide)]
  simp

/-- A day number is its bit 8 and its low byte. -/
theorem ofBool_append_setWidth_self (d : BitVec 9) : BitVec.ofBool (d.getLsbD 8) ++ d.setWidth 8 = d := by
  rw [← BitVec.toNat_inj, toNat_withLowByte, BitVec.toNat_setWidth]
  omega

theorem toNat_setWidth_ofBool_getLsbD_eight (d : BitVec 9) :
    ((BitVec.ofBool (d.getLsbD 8)).setWidth 8 : Byte).toNat = d.toNat / 256 := by
  have hd := d.isLt
  rw [BitVec.toNat_setWidth, BitVec.toNat_ofBool, BitVec.getLsbD, Nat.testBit_eq_decide_div_mod_eq]
  by_cases hb : d.toNat / 256 % 2 = 1 <;> simp [hb] <;> omega

/-- The byte DH of the two flags and the day's bit 8: no two of them share a bit. -/
theorem toNat_dhByte (overflow halted day : Bool) :
    ((bif overflow then 0x80 else 0) ||| (bif halted then 0x40 else 0) ||| (BitVec.ofBool day).setWidth 8 : Byte).toNat =
      (if overflow then 128 else 0) + (if halted then 64 else 0) + ((BitVec.ofBool day).setWidth 8 : Byte).toNat := by
  revert overflow halted day; decide

/-! ## Normalisation (R285) -/

section
variable {r : Rtc} {now : Nat}

theorem Rtc.normalise_of_halted (h : r.halted = true) : r.normalise now = r := by simp [Rtc.normalise, h]

theorem Rtc.normalise_of_lt (h : r.current now < overflowPeriod) : r.normalise now = r := by
  simp [Rtc.normalise, h]

theorem Rtc.normalise_of_le (hr : r.halted = false) (h : overflowPeriod ≤ r.current now) : r.normalise now =
    { r with timestampOffset := r.timestampOffset - r.current now / overflowPeriod * overflowPeriod, overflow := true } := by
  simp [Rtc.normalise, hr, h]

@[simp] theorem Rtc.halted_normalise (r : Rtc) (now : Nat) : (r.normalise now).halted = r.halted := by
  rw [Rtc.normalise, apply_ite Rtc.halted, ite_self]

/-- Where normalising changes the clock, what is left of the time is its remainder. -/
theorem Rtc.current_normalise_of_le (hr : r.halted = false) (h : overflowPeriod ≤ r.current now) :
    (r.normalise now).current now = r.current now % overflowPeriod := by
  rw [Rtc.normalise_of_le hr h, Int.emod_def]
  simp only [Rtc.current]
  ring

theorem Rtc.current_normalise_lt (hr : r.halted = false) : (r.normalise now).current now < overflowPeriod := by
  rcases lt_or_ge (r.current now) overflowPeriod with h | h
  · rwa [Rtc.normalise_of_lt h]
  · rw [Rtc.current_normalise_of_le hr h]
    exact Int.emod_lt_of_pos _ (by decide)

@[simp] theorem Rtc.normalise_normalise (r : Rtc) (now : Nat) : (r.normalise now).normalise now = r.normalise now := by
  cases hr : r.halted with
  | true => exact Rtc.normalise_of_halted (by simp [hr])
  | false => exact Rtc.normalise_of_lt (Rtc.current_normalise_lt hr)

end

/-- Settles O47: a running clock is normalised by its quotient of the overflow period, and its time is then a remainder. -/
theorem rtcNormalise : Obligations.RtcNormalise := by
  unfold Obligations.RtcNormalise
  intro r now
  refine ⟨Rtc.normalise_of_halted, fun hr => ⟨?_, fun h => ?_, fun h => ?_⟩, Rtc.normalise_normalise r now⟩
  · have hlt := Rtc.current_normalise_lt (now := now) hr
    rw [overflowPeriod] at hlt
    omega
  · exact Rtc.normalise_of_lt (by rw [overflowPeriod]; omega)
  · have hle : overflowPeriod ≤ r.current now := by rw [overflowPeriod]; omega
    have hquot : 0 ≤ r.current now / overflowPeriod := Int.ediv_nonneg (le_trans (by decide) hle) (by decide)
    refine ⟨?_, (r.current now / overflowPeriod).toNat, ?_⟩
    · rw [Rtc.current_normalise_of_le hr hle]
      exact Int.emod_nonneg _ (by decide)
    · rw [Rtc.normalise_of_le hr hle, Int.toNat_of_nonneg hquot, overflowPeriod]

/-! ## Reading (R289) -/

section
variable (r : Rtc) (now : Nat)

theorem Rtc.read_seconds : r.read now 0x08 = ((r.normalise now).shownS now).setWidth 8 := rfl

theorem Rtc.read_minutes : r.read now 0x09 = ((r.normalise now).shownM now).setWidth 8 := rfl

theorem Rtc.read_hours : r.read now 0x0A = ((r.normalise now).shownH now).setWidth 8 := rfl

theorem Rtc.read_dayLow : r.read now 0x0B = ((r.normalise now).shownD now).setWidth 8 := rfl

theorem Rtc.toNat_read_dh : (r.read now 0x0C).toNat = (if (r.normalise now).overflow then 128 else 0) +
    (if (r.normalise now).halted then 64 else 0) + ((r.normalise now).shownD now).toNat / 256 := by
  rw [← toNat_setWidth_ofBool_getLsbD_eight, ← toNat_dhByte]
  rfl

theorem Rtc.toNat_shownS : ((r.shownS now).toNat : Int) =
    if r.halted then (r.snapS.toNat : Int) else r.current (r.readRef now) % 60 := by
  rw [Rtc.shownS, apply_ite BitVec.toNat, Nat.cast_ite, toNat_timeS]

theorem Rtc.toNat_shownM : ((r.shownM now).toNat : Int) =
    if r.halted then (r.snapM.toNat : Int) else r.current (r.readRef now) / 60 % 60 := by
  rw [Rtc.shownM, apply_ite BitVec.toNat, Nat.cast_ite, toNat_timeM]

theorem Rtc.toNat_shownH : ((r.shownH now).toNat : Int) =
    if r.halted then (r.snapH.toNat : Int) else r.current (r.readRef now) / 3600 % 24 := by
  rw [Rtc.shownH, apply_ite BitVec.toNat, Nat.cast_ite, toNat_timeH]

theorem Rtc.toNat_shownD : ((r.shownD now).toNat : Int) =
    if r.halted then (r.snapD.toNat : Int) else r.current (r.readRef now) / 86400 % 512 := by
  rw [Rtc.shownD, apply_ite BitVec.toNat, Nat.cast_ite, toNat_timeD]

end

/-- Settles O48: each register is a field as a read sees it, in its bits of the byte. -/
theorem rtcRead : Obligations.RtcRead := by
  unfold Obligations.RtcRead
  intro r now n t d
  have hday : ((n.shownD now).toNat : Int) = d := n.toNat_shownD now
  refine ⟨?_, ?_, ?_, ?_, ?_⟩
  · rw [Rtc.read_seconds, BitVec.toNat_setWidth_of_le (by decide)]
    exact n.toNat_shownS now
  · rw [Rtc.read_minutes, BitVec.toNat_setWidth_of_le (by decide)]
    exact n.toNat_shownM now
  · rw [Rtc.read_hours, BitVec.toNat_setWidth_of_le (by decide)]
    exact n.toNat_shownH now
  · rw [Rtc.read_dayLow, BitVec.toNat_setWidth, ← hday]
    rfl
  · rw [Rtc.toNat_read_dh, ← hday]
    push_cast
    rfl

/-! ## The day helpers (R292) -/

section
variable {r : Rtc} {now : Nat}

theorem Rtc.setDays_of_halted (h : r.halted = true) (d : BitVec 9) : r.setDays now d = { r with snapD := d } := by
  simp [Rtc.setDays, h]

/-- On a running clock the offset moves by whole days. -/
theorem Rtc.setDays_of_running (h : r.halted = false) (d : BitVec 9) : r.setDays now d =
    { r with timestampOffset := r.timestampOffset + ((d.toNat : Int) - (timeD (r.current now)).toNat) * 86400 } := by
  simp [Rtc.setDays, h, secondsPerDay]

theorem Rtc.setDays_eq_withOffset (h : r.halted = false) (d : BitVec 9) :
    r.setDays now d = { r with timestampOffset := (r.setDays now d).timestampOffset } := by
  rw [Rtc.setDays_of_running h]

theorem Rtc.current_setDays (h : r.halted = false) (d : BitVec 9) :
    (r.setDays now d).current now = r.current now + ((d.toNat : Int) - r.current now / 86400 % 512) * 86400 := by
  rw [← toNat_timeD, Rtc.setDays_of_running h]
  simp only [Rtc.current]
  ring

@[simp] theorem Rtc.halted_setDays (r : Rtc) (now : Nat) (d : BitVec 9) : (r.setDays now d).halted = r.halted := by
  rw [Rtc.setDays, apply_ite Rtc.halted, ite_self]

theorem Rtc.daysNow_of_halted (h : r.halted = true) : r.daysNow now = r.snapD := by simp [Rtc.daysNow, h]

theorem Rtc.daysNow_of_running (h : r.halted = false) : r.daysNow now = timeD (r.current now) := by simp [Rtc.daysNow, h]

theorem Rtc.toNat_daysNow_of_running (h : r.halted = false) :
    ((r.daysNow now).toNat : Int) = r.current now / 86400 % 512 := by
  rw [Rtc.daysNow_of_running h, toNat_timeD]

/-- The time of day stays and the day number becomes `d`, up to turns of the day counter. -/
theorem Rtc.timeOfDay_setDays (h : r.halted = false) (d : BitVec 9) :
    (r.setDays now d).current now % 86400 = r.current now % 86400 ∧
    (r.setDays now d).current now / 86400 % 512 = d.toNat := by
  rw [Rtc.current_setDays h]
  have hd := d.isLt
  omega

@[simp] theorem Rtc.daysNow_setDays (r : Rtc) (now : Nat) (d : BitVec 9) : (r.setDays now d).daysNow now = d := by
  cases h : r.halted with
  | true => rw [Rtc.daysNow_of_halted ((r.halted_setDays now d).trans h), Rtc.setDays_of_halted h]
  | false =>
    rw [← BitVec.toNat_inj, ← Int.natCast_inj, Rtc.toNat_daysNow_of_running ((r.halted_setDays now d).trans h)]
    exact (Rtc.timeOfDay_setDays h d).2

end

/-! ## Writing the time (R290) -/

section
variable (r : Rtc) (now : Nat) (v : Byte)

theorem Rtc.write_seconds : r.write now 0x08 v =
    if (r.normalise now).halted then { r.normalise now with snapS := v.setWidth 6 } else r.normalise now := rfl

theorem Rtc.write_minutes : r.write now 0x09 v =
    if (r.normalise now).halted then { r.normalise now with snapM := v.setWidth 6 } else r.normalise now := rfl

theorem Rtc.write_hours : r.write now 0x0A v =
    if (r.normalise now).halted then { r.normalise now with snapH := v.setWidth 5 } else r.normalise now := rfl

theorem Rtc.write_dayLow : r.write now 0x0B v =
    (r.normalise now).setDays now (BitVec.ofBool (((r.normalise now).daysNow now).getLsbD 8) ++ v) := rfl

theorem Rtc.write_dh : r.write now 0x0C v = (r.normalise now).writeDH now v := rfl

end

/-- Settles O49: the registers S, M and H by the halt flag; the write of DL by the day helpers, with the day's low byte replaced. -/
theorem rtcWriteTime : Obligations.RtcWriteTime := by
  unfold Obligations.RtcWriteTime
  intro r now v n
  constructor
  · intro hn
    obtain ⟨htime, hday⟩ := Rtc.timeOfDay_setDays hn (now := now) (BitVec.ofBool ((n.daysNow now).getLsbD 8) ++ v)
    rw [toNat_withLowByte, Nat.cast_add, Nat.cast_mul, Int.natCast_ediv, Rtc.toNat_daysNow_of_running hn] at hday
    refine ⟨?_, ?_, ?_, _, Rtc.write_dayLow r now v, Rtc.setDays_eq_withOffset hn _, htime, hday⟩
    · rw [Rtc.write_seconds, if_neg (ne_true_of_eq_false hn)]
    · rw [Rtc.write_minutes, if_neg (ne_true_of_eq_false hn)]
    · rw [Rtc.write_hours, if_neg (ne_true_of_eq_false hn)]
  · intro hn
    refine ⟨⟨_, BitVec.toNat_setWidth 6 v, ?_⟩, ⟨_, BitVec.toNat_setWidth 6 v, ?_⟩, ⟨_, BitVec.toNat_setWidth 5 v, ?_⟩,
      _, toNat_withLowByte n.snapD v, ?_⟩
    · rw [Rtc.write_seconds, if_pos hn]
    · rw [Rtc.write_minutes, if_pos hn]
    · rw [Rtc.write_hours, if_pos hn]
    · rw [Rtc.write_dayLow, Rtc.daysNow_of_halted hn, Rtc.setDays_of_halted hn]

/-! ## The DH write (R291) -/

/-- The running clock captured: its snapshot holds the fields of the time, and it is halted. -/
def Rtc.frozen (r : Rtc) (now : Nat) : Rtc :=
  { r with snapS := timeS (r.current now), snapM := timeM (r.current now), snapH := timeH (r.current now),
           snapD := timeD (r.current now), halted := true }

/-- The halted clock resumed from its snapshot. -/
def Rtc.resumed (r : Rtc) (now : Nat) : Rtc :=
  { r with timestampOffset := timeOfFields r.snapD r.snapH r.snapM r.snapS, startTimestamp := now, halted := false }

/-- The first three sub-steps of the DH write. -/
def Rtc.beforeResume (r : Rtc) (now : Nat) (v : Byte) : Rtc :=
  { (r.capture now v).setDays now (BitVec.ofBool (v.getLsbD 0) ++ ((r.capture now v).daysNow now).setWidth 8) with
    overflow := v.getLsbD 7 }

theorem Rtc.writeDH_eq (r : Rtc) (now : Nat) (v : Byte) : r.writeDH now v = (r.beforeResume now v).resume now v := rfl

section
variable {r : Rtc} {now : Nat} {v : Byte}

theorem Rtc.capture_of_halt (hv : v.getLsbD 6 = true) (hr : r.halted = false) : r.capture now v = r.frozen now := by
  simp [Rtc.capture, hv, hr, Rtc.frozen]

theorem Rtc.capture_of_halted (hr : r.halted = true) : r.capture now v = r := by simp [Rtc.capture, hr]

theorem Rtc.capture_of_clear (hv : v.getLsbD 6 = false) : r.capture now v = r := by
  rw [Rtc.capture, hv, Bool.false_and]
  rfl

@[simp] theorem Rtc.halted_capture (r : Rtc) (now : Nat) (v : Byte) :
    (r.capture now v).halted = (r.halted || v.getLsbD 6) := by
  cases hr : r.halted with
  | true => rw [Rtc.capture_of_halted hr, hr, Bool.true_or]
  | false =>
    cases hv : v.getLsbD 6 with
    | true => rw [Rtc.capture_of_halt hv hr]; rfl
    | false => rw [Rtc.capture_of_clear hv, hr]; rfl

theorem Rtc.resume_of_halted (hv : v.getLsbD 6 = false) (hr : r.halted = true) : r.resume now v = r.resumed now := by
  rw [Rtc.resume, hv, hr]
  rfl

theorem Rtc.resume_of_set_or_running (h : v.getLsbD 6 = true ∨ r.halted = false) : r.resume now v = r := by
  rcases h with h | h <;> simp [Rtc.resume, h]

theorem Rtc.halted_resume (r : Rtc) (now : Nat) (v : Byte) : (r.resume now v).halted = (r.halted && v.getLsbD 6) := by
  cases hv : v.getLsbD 6 with
  | true => rw [Rtc.resume_of_set_or_running (.inl hv), Bool.and_true]
  | false =>
    cases hr : r.halted with
    | true => rw [Rtc.resume_of_halted hv hr]; rfl
    | false => rw [Rtc.resume_of_set_or_running (.inr hr), hr]; rfl

theorem Rtc.overflow_resume (r : Rtc) (now : Nat) (v : Byte) : (r.resume now v).overflow = r.overflow := by
  rw [Rtc.resume, apply_ite Rtc.overflow, ite_self]

theorem Rtc.halted_beforeResume (r : Rtc) (now : Nat) (v : Byte) :
    (r.beforeResume now v).halted = (r.halted || v.getLsbD 6) :=
  (Rtc.halted_setDays _ now _).trans (r.halted_capture now v)

theorem Rtc.daysNow_beforeResume (r : Rtc) (now : Nat) (v : Byte) : (r.beforeResume now v).daysNow now =
    BitVec.ofBool (v.getLsbD 0) ++ ((r.capture now v).daysNow now).setWidth 8 :=
  Rtc.daysNow_setDays _ now _

theorem Rtc.overflow_writeDH (r : Rtc) (now : Nat) (v : Byte) : (r.writeDH now v).overflow = v.getLsbD 7 :=
  Rtc.overflow_resume _ now v

theorem Rtc.halted_writeDH (r : Rtc) (now : Nat) (v : Byte) : (r.writeDH now v).halted = v.getLsbD 6 := by
  rw [Rtc.writeDH_eq, Rtc.halted_resume, Rtc.halted_beforeResume]
  cases r.halted <;> cases v.getLsbD 6 <;> rfl

/-- But for a resume, the day's bit 8 is the one written. -/
theorem Rtc.dayBit_writeDH (h : v.getLsbD 6 = true ∨ r.halted = false) :
    ((r.writeDH now v).daysNow now).getLsbD 8 = v.getLsbD 0 := by
  have hkept : v.getLsbD 6 = true ∨ (r.beforeResume now v).halted = false := by
    rw [Rtc.halted_beforeResume]
    cases hv : v.getLsbD 6 with
    | true => exact .inl rfl
    | false => exact .inr (by rw [Bool.or_false]; exact h.resolve_left (ne_false_of_eq_true · hv))
  rw [Rtc.writeDH_eq, Rtc.resume_of_set_or_running hkept, Rtc.daysNow_beforeResume, getLsbD_eight_ofBool_append]

/-! ## Halting and resuming (R294) -/

@[simp] theorem Rtc.setDays_daysNow (r : Rtc) (now : Nat) : r.setDays now (r.daysNow now) = r := by
  cases h : r.halted with
  | true => rw [Rtc.setDays_of_halted h, Rtc.daysNow_of_halted h]
  | false => rw [Rtc.setDays_of_running h, Rtc.daysNow_of_running h, Int.sub_self, Int.zero_mul, Int.add_zero]

theorem Rtc.beforeResume_of_dayBit (h : v.getLsbD 0 = ((r.capture now v).daysNow now).getLsbD 8) :
    r.beforeResume now v = { r.capture now v with overflow := v.getLsbD 7 } := by
  rw [Rtc.beforeResume, h, ofBool_append_setWidth_self, Rtc.setDays_daysNow]

/-- A DH write that halts a running clock and keeps its day bit captures the time, and only that. -/
theorem Rtc.writeDH_of_halt (hr : r.halted = false) (hv : v.getLsbD 6 = true) (hday : v.getLsbD 0 = (r.daysNow now).getLsbD 8) :
    r.writeDH now v = { r.frozen now with overflow := v.getLsbD 7 } := by
  have hday' : v.getLsbD 0 = ((r.capture now v).daysNow now).getLsbD 8 := by
    rw [hday, Rtc.capture_of_halt hv hr, Rtc.daysNow_of_running hr]
    rfl
  rw [Rtc.writeDH_eq, Rtc.resume_of_set_or_running (.inl hv), Rtc.beforeResume_of_dayBit hday', Rtc.capture_of_halt hv hr]

/-- A DH write that resumes a halted clock and keeps its day bit starts it from the snapshot as it was. -/
theorem Rtc.writeDH_of_resume (hr : r.halted = true) (hv : v.getLsbD 6 = false) (hday : v.getLsbD 0 = r.snapD.getLsbD 8) :
    r.writeDH now v = { r.resumed now with overflow := v.getLsbD 7 } := by
  have hcap : r.capture now v = r := Rtc.capture_of_halted hr
  have hday' : v.getLsbD 0 = ((r.capture now v).daysNow now).getLsbD 8 := by
    rw [hcap, Rtc.daysNow_of_halted hr, hday]
  rw [Rtc.writeDH_eq, Rtc.beforeResume_of_dayBit hday', hcap]
  exact Rtc.resume_of_halted hv hr

/-- Setting the halt bit of a DH value changes no other bit of it. -/
theorem getLsbD_setHaltBit (v : Byte) : (v ||| 0x40).getLsbD 7 = v.getLsbD 7 ∧ (v ||| 0x40).getLsbD 6 = true ∧
    (v ||| 0x40).getLsbD 0 = v.getLsbD 0 := by
  revert v; decide

/-- Halting and resuming with the day bit kept: the clock, normalised, captured and resumed from the capture. -/
theorem Rtc.write_halt_resume (hr : r.halted = false) (hv : v.getLsbD 6 = false)
    (hday : v.getLsbD 0 = ((r.normalise now).daysNow now).getLsbD 8) :
    (r.write now 0x0C (v ||| 0x40)).write now 0x0C v =
      { ((r.normalise now).frozen now).resumed now with overflow := v.getLsbD 7 } := by
  obtain ⟨hoverflow, hhalt, hbit⟩ := getLsbD_setHaltBit v
  have hn : (r.normalise now).halted = false := (r.halted_normalise now).trans hr
  have hfrozen : r.write now 0x0C (v ||| 0x40) = { (r.normalise now).frozen now with overflow := v.getLsbD 7 } := by
    rw [Rtc.write_dh, Rtc.writeDH_of_halt hn hhalt (hbit.trans hday), hoverflow]
  generalize r.write now 0x0C (v ||| 0x40) = c at hfrozen ⊢
  have hcHalted : c.halted = true := hfrozen ▸ rfl
  have hcDay : v.getLsbD 0 = c.snapD.getLsbD 8 := by rw [hday, Rtc.daysNow_of_running hn, hfrozen]; rfl
  rw [Rtc.write_dh, Rtc.normalise_of_halted hcHalted, Rtc.writeDH_of_resume hcHalted hv hcDay, hfrozen]
  rfl

/-- A clock halted and resumed starts from what the fields hold of its time. -/
theorem Rtc.current_resumed_frozen (r : Rtc) (now : Nat) (b : Bool) (ref : Int) :
    { (r.frozen now).resumed now with overflow := b }.current ref = ref - now + r.current now % overflowPeriod :=
  congrArg (ref - now + ·) (timeOfFields_time (r.current now))

theorem Rtc.current_resumed_frozen_lt (r : Rtc) (now : Nat) (b : Bool) :
    { (r.frozen now).resumed now with overflow := b }.current now < overflowPeriod := by
  rw [Rtc.current_resumed_frozen, Int.sub_self, Int.zero_add]
  exact Int.emod_lt_of_pos _ (by decide)

/-- At any reference, the time of a clock halted and resumed is the time before, up to the overflow period. -/
theorem Rtc.current_resumed_frozen_emod (r : Rtc) (now : Nat) (b : Bool) (ref : Int) :
    { (r.frozen now).resumed now with overflow := b }.current ref % overflowPeriod = r.current ref % overflowPeriod := by
  have hshift : ref - now + r.current now = r.current ref := by
    simp only [Rtc.current]
    ring
  rw [Rtc.current_resumed_frozen, Int.add_emod_emod, hshift]

/-- What a running clock reads depends on its time up to the overflow period, and on the overflow flag. -/
theorem Rtc.shown_congr {r' : Rtc} (hr : r.halted = false) (hr' : r'.halted = false) (ho : r'.overflow = r.overflow)
    (ht : r'.current (r'.readRef now) % overflowPeriod = r.current (r.readRef now) % overflowPeriod) (sel : Byte) :
    r'.shown now sel = r.shown now sel := by
  obtain ⟨hs, hm, hh, hd⟩ := timeFields_congr ht
  simp only [Rtc.shown, Rtc.shownS, Rtc.shownM, Rtc.shownH, Rtc.shownD, hr, hr', ho, hs, hm, hh, hd, Bool.false_eq_true, if_false]

theorem Rtc.read_halt_resume (hr : r.halted = false) (hv : v.getLsbD 6 = false)
    (ho : v.getLsbD 7 = (r.normalise now).overflow) (hday : v.getLsbD 0 = ((r.normalise now).daysNow now).getLsbD 8)
    (sel : Byte) : ((r.write now 0x0C (v ||| 0x40)).write now 0x0C v).read now sel = r.read now sel := by
  rw [Rtc.write_halt_resume hr hv hday, Rtc.read, Rtc.read, Rtc.normalise_of_lt (Rtc.current_resumed_frozen_lt _ _ _)]
  exact Rtc.shown_congr ((r.halted_normalise now).trans hr) rfl ho (Rtc.current_resumed_frozen_emod _ now _ _) sel

/-! ## Latching (R288) -/

/-- Normalisation and the latch are about different fields. -/
theorem Rtc.normalise_withLatch (r : Rtc) (now : Nat) (l : Option Int) :
    { r with latchTimestamp := l }.normalise now = { r.normalise now with latchTimestamp := l } := by
  unfold Rtc.normalise
  dsimp only [Rtc.current]
  split <;> rfl

@[simp] theorem Rtc.latch_latch (r : Rtc) (now : Nat) : (r.latch now).latch now = r.latch now := by
  rw [Rtc.latch, Rtc.latch, Rtc.normalise_withLatch, Rtc.normalise_normalise]

end

/-- Settles O50: the flags and the day bit by the sub-steps of the DH write; the other two by the clock's time, which halting and
resuming keeps up to the overflow period, and by the second latch being the first. -/
theorem rtcHaltAndLatch : Obligations.RtcHaltAndLatch := by
  unfold Obligations.RtcHaltAndLatch
  intro r now n
  refine ⟨fun v => ⟨n.overflow_writeDH now v, n.halted_writeDH now v, fun h => ?_⟩,
    fun hr v ho hv hday sel _ => Rtc.read_halt_resume hr hv ho hday sel, fun sel => by rw [Rtc.latch_latch]⟩
  rw [← r.halted_normalise now] at h
  exact Rtc.dayBit_writeDH h

end Sys2Proof.Machine
end


section
/-! The encoding family: the maps against the encoder, the decoder against both, the illegal rows, the step as the run of the decoded
bytes, and the count of bus cycles (R321 to R331, R365, R371). -/

namespace Sys2Proof

/-! ## The maps and the encoder -/

/-- The row of an entry with the immediate byte `n` or the immediate word `nn`, where it has one. -/
def Entry.row (n : Byte) (nn : Word) : Entry → Instr
  | .f1 i => i
  | .f2 mk => mk n
  | .f3 mk => mk nn
  | .fcb => .PREFIX_CB

/-- The bytes of that row by the formats of R321: the opcode byte and the immediate bytes. -/
def Entry.rowBytes (op n : Byte) (nn : Word) : Entry → List Byte
  | .f1 _ => [op]
  | .f2 _ => [op, n]
  | .f3 _ => [op, immLow nn, immHigh nn]
  | .fcb => [op]

/-- The encoder agrees with the primary map at every opcode byte (R326). -/
theorem encode_row_primary (op n : Byte) (nn : Word) :
    encode ((primary op).row n nn) = (primary op).rowBytes op n nn := by
  obtain ⟨v, hv, rfl⟩ : ∃ v < 256, op = BitVec.ofNat 8 v := ⟨op.toNat, op.isLt, by simp⟩
  interval_cases v <;> rfl

/-- The encoder agrees with the CB map at every second byte (R329). -/
theorem encode_cbInstr (cb : Byte) : encode (cbInstr cb) = [0xCB, cb] := by revert cb; decide

section Entries
variable {op : Byte} {i : Instr} {mk : Byte → Instr} {mk' : Word → Instr}

theorem encode_of_f1 (h : primary op = .f1 i) : encode i = [op] := by
  simpa [h, Entry.row, Entry.rowBytes] using encode_row_primary op 0 0

theorem encode_of_f2 (h : primary op = .f2 mk) (n : Byte) : encode (mk n) = [op, n] := by
  simpa [h, Entry.row, Entry.rowBytes] using encode_row_primary op n 0

theorem encode_of_f3 (h : primary op = .f3 mk') (lo hi : Byte) : encode (mk' (immWord lo hi)) = [op, lo, hi] := by
  simpa [h, Entry.row, Entry.rowBytes] using encode_row_primary op 0 (immWord lo hi)

theorem eq_0xCB_of_fcb (h : primary op = .fcb) : op = 0xCB := by
  have he : encode .PREFIX_CB = [op] := by simpa [h, Entry.row, Entry.rowBytes] using encode_row_primary op 0 0
  exact (List.head_eq_of_cons_eq he).symm

/-- An opcode byte of the format f3 with the two bytes of a word decodes to its row with that word (R324). -/
theorem decode_of_f3 (h : primary op = .f3 mk') (nn : Word) (rest : List Byte) :
    decode (op :: immLow nn :: immHigh nn :: rest) = .ok (mk' nn, rest) := by
  simp [decode, h]

end Entries

/-! ## The decoder -/

/-- The bytes of a row decode to the row (R321, R331). The bytes of a 16-bit immediate are put together again; all else is a look into the
maps. -/
theorem decode_encode {i : Instr} (h : i.isWhole = true) (rest : List Byte) : decode (encode i ++ rest) = .ok (i, rest) := by
  cases i with
  | PREFIX_CB => cases h
  | LD_BC_nn nn | LD_mnn_SP nn | LD_DE_nn nn | LD_HL_nn nn | LD_SP_nn nn | JP_NZ_nn nn | JP_nn nn | CALL_NZ_nn nn | JP_Z_nn nn
  | CALL_Z_nn nn | CALL_nn nn | JP_NC_nn nn | CALL_NC_nn nn | JP_C_nn nn | CALL_C_nn nn | LD_mnn_A nn | LD_A_mnn nn =>
    exact decode_of_f3 rfl nn rest
  | _ => rfl

/-- What a list of bytes decodes to stands at its beginning (R331): by the format of the opcode byte. -/
theorem eq_encode_append_of_decode {bytes rest : List Byte} {i : Instr} (h : decode bytes = .ok (i, rest)) :
    bytes = encode i ++ rest := by
  unfold decode at h
  split at h
  · cases h
  · next op tail =>
    split at h <;> cases h
    · next hp => rw [encode_of_f1 hp]; rfl
    · next hp => rw [encode_of_f2 hp]; rfl
    · next hp => rw [encode_of_f3 hp]; rfl
    · next hp => rw [eq_0xCB_of_fcb hp, encode_cbInstr]; rfl
    · next hp => rw [eq_0xCB_of_fcb hp]; rfl

/-- Settles O54: `decode_encode` is the one direction, `eq_encode_append_of_decode` the other. -/
theorem decodeEncode : Obligations.DecodeEncode := by
  unfold Obligations.DecodeEncode
  exact ⟨fun _ rest h => decode_encode h rest, fun _ _ _ h => eq_encode_append_of_decode h⟩

namespace Machine

/-! ## The illegal opcodes -/

/-- The row of an illegal opcode is no instruction, and its opcode byte is all of it (R328). -/
theorem illegalOpcode_spec {i : Instr} {op : Byte} (h : i.illegalOpcode = some op) :
    i.wellFormed = false ∧ isIllegalOpcode op = true ∧ encode i = [op] := by
  unfold Instr.illegalOpcode at h
  split at h <;> cases h <;> exact ⟨rfl, rfl, rfl⟩

/-- Settles O30: what the row is by `illegalOpcode_spec`, its meaning by `exec_illegal`. -/
theorem illegalOpcodesFault : Obligations.IllegalOpcodesFault := by
  unfold Obligations.IllegalOpcodesFault
  intro i op h
  obtain ⟨hw, hop, he⟩ := illegalOpcode_spec h
  exact ⟨hw, hop, he, exec_illegal h⟩

/-- The illegal opcodes as R328 lists them. -/
theorem mem_illegalOpcodes_iff (op : Byte) :
    op ∈ [0xD3, 0xDB, 0xDD, 0xE3, 0xE4, 0xEB, 0xEC, 0xED, 0xF4, 0xFC, 0xFD] ↔ isIllegalOpcode op = true := by
  simp [isIllegalOpcode, or_assoc]

/-- The primary map has a row for every illegal opcode (R326, R328). -/
theorem illegalOpcode_row_primary (op : Byte) :
    isIllegalOpcode op = true → ((primary op).row 0 0).illegalOpcode = some op := by
  revert op
  decide

theorem Instr.isWhole_of_illegal {i : Instr} {op : Byte} (h : i.illegalOpcode = some op) : i.isWhole = true := by
  cases hw : i.isWhole with
  | true => rfl
  | false => rw [Instr.eq_PREFIX_CB_of_not_isWhole hw] at h; cases h

/-- Settles O55: the words by looking them up; an illegal opcode's row is one, so `decode_encode` reads it back. -/
theorem decodeWords : Obligations.DecodeWords := by
  unfold Obligations.DecodeWords
  refine ⟨rfl, rfl, rfl, rfl, rfl, rfl, rfl, rfl, rfl, rfl, rfl, fun op rest => ?_⟩
  rw [mem_illegalOpcodes_iff]
  constructor
  · intro hop
    have hi := illegalOpcode_row_primary op hop
    obtain ⟨-, -, he⟩ := illegalOpcode_spec hi
    have hd := decode_encode (Instr.isWhole_of_illegal hi) rest
    rw [he] at hd
    exact ⟨_, hd, hi⟩
  · rintro ⟨i, -, hi⟩
    obtain ⟨-, hop, -⟩ := illegalOpcode_spec hi
    exact hop

/-! ## The step and the decoder -/

theorem bytesRead_haltBug (n : Nat) (s : State) : (bytesRead n s).eng.haltBug = false := by
  induction n with
  | zero => rfl
  | succ n ih => exact ih

theorem bytesRead_addr (n : Nat) (s : State) : (bytesRead n s).eng.ctx.addr = s.regs.pc := by
  induction n with
  | zero => rfl
  | succ n ih => exact ih

theorem bytesRead_vbkRefused (n : Nat) (s : State) : (bytesRead n s).vbkRefused = s.vbkRefused := by
  induction n with
  | zero => rfl
  | succ n ih => exact ih

/-- Reading an instruction's bytes moves PC alone of the registers. -/
theorem bytesRead_regs (n : Nat) (s : State) : (bytesRead n s).regs =
    { s.regs with pc := s.regs.pc + BitVec.ofNat 16 (if s.eng.haltBug then n else n + 1) } := by
  have keeps : (bytesRead n s).regs = { s.regs with pc := (bytesRead n s).regs.pc } := by
    induction n with
    | zero => rfl
    | succ n ih =>
      show { (bytesRead n s).regs with pc := (bytesRead n s).regs.pc + 1 } = _
      rw [ih]
      rfl
  rw [keeps, bytesRead_pc]

/-- The fetch reads as many bytes as the row it decodes has, and runs it (R321, R366, R367). -/
theorem runFetched_of_decode {s : State} {i : Instr} {rest : List Byte}
    (h : decode [fetchedByte 0 s, fetchedByte 1 s, fetchedByte 2 s] = .ok (i, rest)) :
    runFetched s = exec i (bytesRead ((encode i).length - 1) s) := by
  cases hp : primary (fetchedByte 0 s) <;> simp only [decode, runFetched, hp] at h ⊢ <;> cases h
  case f1 => rw [encode_of_f1 hp]; rfl
  case f2 => rw [encode_of_f2 hp]; rfl
  case f3 => rw [encode_of_f3 hp]; rfl
  case fcb => rw [encode_cbInstr]; rfl

theorem step_of_fault {s : State} {op : Byte} {a : Word} (h : s.eng.fault = some (op, a)) :
    step s = .fault (.illegalOpcode op a s) := by
  simp only [step, h]

theorem step_of_vbkRefused {s : State} (hf : s.eng.fault = none) (hv : s.vbkRefused = true) :
    step s = .refused .vramBank1 := by
  simp only [step, hf, hv, if_true]

theorem step_of_running {s : State} (hf : s.eng.fault = none) (hv : s.vbkRefused = false) (hr : s.eng.run = .running) :
    step s = runStep s := by
  simp only [step, hf, hv, hr, if_false, Bool.false_eq_true]

/-- Settles O56: the step of a running CPU is the run of the fetched bytes, which `runFetched_of_decode` reads as the decoder does. -/
theorem stepRunsDecoded : Obligations.StepRunsDecoded := by
  unfold Obligations.StepRunsDecoded
  refine ⟨fun _ _ _ => step_of_fault, fun s hf h => ?_, fun s i rest hf hv hr ht _ hd => ?_⟩
  · cases hv : s.vbkRefused with
    | true => exact step_of_vbkRefused hf hv
    | false =>
      obtain ⟨hr, ht⟩ := h.resolve_left (by simp [hv])
      rw [step_of_running hf hv hr, runStep, if_pos ht]
  · refine ⟨?_, bytesRead_regs _ _, bytesRead_haltBug _ _, bytesRead_addr _ _, (bytesRead_vbkRefused _ _).trans ht⟩
    rw [step_of_running hf hv hr, runStep, if_neg (by simp [ht]), runFetched_of_decode hd]

/-! ## Bus cycles -/

open Laws.Cycles (entry untaken)

theorem entry_cb (cb : Byte) (tail : List Byte) : entry (0xCB :: cb :: tail) =
    if cb &&& 7 ≠ 6 then (2, 2, 2) else if cb &&& 0xC0 = 0x40 then (2, 3, 3) else (2, 4, 4) := rfl

theorem entry_of_ne {op : Byte} (h : op ≠ 0xCB) (tail : List Byte) : entry (op :: tail) = cycleEntry op := by
  unfold entry
  split
  · next heq => exact absurd (List.head_eq_of_cons_eq heq) h
  · next heq => rw [List.head_eq_of_cons_eq heq]
  · next heq => cases heq

theorem lengthAndCycles_cb (cb : Byte) (tail : List Byte) (f : Byte) : lengthAndCycles (0xCB :: cb :: tail) f =
    (2, if cb &&& 7 ≠ 6 then 2 else if cb &&& 0xC0 = 0x40 then 3 else 4) := rfl

theorem lengthAndCycles_of_ne {op : Byte} (h : op ≠ 0xCB) (tail : List Byte) (f : Byte) : lengthAndCycles (op :: tail) f =
    ((cycleEntry op).1, if condHolds (condOfOpcode op) f then (cycleEntry op).2.1 else (cycleEntry op).2.2) := by
  unfold lengthAndCycles
  split
  · next heq => exact absurd (List.head_eq_of_cons_eq heq) h
  · next heq => rw [List.head_eq_of_cons_eq heq]
  · next heq => cases heq

/-- The table of R327 and the rule of R330, of which the condition in the opcode chooses the count. -/
theorem lengthAndCycles_eq_entry (bytes : List Byte) (f : Byte) : lengthAndCycles bytes f =
    ((entry bytes).1, if condHolds (condOfOpcode (bytes.headD 0)) f then (entry bytes).2.1 else (entry bytes).2.2) := by
  cases bytes with
  | nil => exact Prod.ext rfl (ite_self 0).symm
  | cons op tail =>
    by_cases hop : op = 0xCB
    · subst hop
      cases tail with
      | nil => rfl
      | cons cb tail =>
        rw [lengthAndCycles_cb, entry_cb]
        split_ifs <;> rfl
    · rw [lengthAndCycles_of_ne hop, entry_of_ne hop, List.headD_cons]

/-- A micro-op makes its bus access in the bus cycle it runs in (R124, R364). -/
theorem micro_cycle (op : MicroOp) (s : State) : (micro op s).env.cycle = s.env.cycle := by
  cases op with
  | store | storeSpLow | storeSpHigh | resMem | setMem | storeHlInc | storeHlDec | pushHigh | pushLow | pushPcHigh | pushPcLow
  | incMem | decMem | rotMem => exact memWrite_cycle ..
  | stop =>
    show (stopCpu s).env.cycle = _
    unfold stopCpu
    split <;> rfl
  | _ => rfl

theorem runMicro_cycle (m : Micro) (s : State) : (runMicro m s).env.cycle = s.env.cycle := by
  unfold runMicro
  split
  · exact micro_cycle m.op s
  · rfl

theorem runRest_cons (m : Micro) (rest : List Micro) (s : State) : runRest (m :: rest) s =
    if m.holds (tick s) then runRest rest (runMicro m (tick s)) else runMicro m (tick s) := rfl

/-- No micro-op of the list is conditional. -/
def unconditional (ops : List Micro) : Bool := ops.all fun m => m.guard.isNone

theorem unconditional_cons {m : Micro} {rest : List Micro} :
    unconditional (m :: rest) = true ↔ m.guard = none ∧ unconditional rest = true := by
  simp [unconditional]

/-- An unconditional list takes a bus cycle for each of its micro-ops (R364, R371). -/
theorem runRest_cycle_of_unconditional {ops : List Micro} (h : unconditional ops = true) (s : State) :
    (runRest ops s).env.cycle = s.env.cycle + ops.length := by
  induction ops generalizing s with
  | nil => rfl
  | cons m rest ih =>
    obtain ⟨hm, hrest⟩ := unconditional_cons.mp h
    have hh : m.holds (tick s) = true := by simp [Micro.holds, hm]
    rw [runRest_cons, if_pos hh, ih hrest, runMicro_cycle, tick_env_cycle, List.length_cons]
    omega

theorem untaken_of_unconditional {ops : List Micro} (h : unconditional ops = true) : untaken ops = ops.length := by
  induction ops with
  | nil => rfl
  | cons m rest ih =>
    obtain ⟨hm, hrest⟩ := unconditional_cons.mp h
    simp [untaken, hm, ih hrest, Nat.add_comm]

/-- At most one micro-op of the list is conditional, on `cc`, and only idle bus cycles stand before it: the condition is read from the F
the list begins with (R364). -/
def waitsOn (cc : Cond) : List Micro → Bool
  | [] => true
  | m :: rest => (m == does .pad && waitsOn cc rest) || ((m.guard.isNone || m.guard == some cc) && unconditional rest)

/-- The bus cycles of such a list: all of it where the condition holds, else those up to the conditional micro-op (R364, R371). -/
theorem runRest_cycle {cc : Cond} {ops : List Micro} (h : waitsOn cc ops = true) (s : State) :
    (runRest ops s).env.cycle = s.env.cycle + if condHolds cc s.regs.f then ops.length else untaken ops := by
  induction ops generalizing s with
  | nil => simp [untaken]
  | cons m rest ih =>
    simp only [waitsOn, Bool.or_eq_true, Bool.and_eq_true, beq_iff_eq, Option.isNone_iff_eq_none] at h
    rcases h with ⟨rfl, hrest⟩ | ⟨hm | hm, hrest⟩
    · have hpad : (runMicro (does .pad) (tick s)).regs.f = s.regs.f := rfl
      rw [runRest_does, ih hrest, hpad, runMicro_cycle, tick_env_cycle]
      simp only [untaken, List.length_cons, Option.isSome_none, Bool.false_eq_true, if_false]
      split_ifs <;> omega
    · have hu := unconditional_cons.mpr ⟨hm, hrest⟩
      rw [runRest_cycle_of_unconditional hu, untaken_of_unconditional hu, ite_self]
    · have hh : m.holds (tick s) = condHolds cc s.regs.f := by simp [Micro.holds, hm]
      rw [runRest_cons, hh]
      split
      · rw [runRest_cycle_of_unconditional hrest, runMicro_cycle, tick_env_cycle, List.length_cons]
        omega
      · rw [runMicro_cycle, tick_env_cycle]
        simp [untaken, hm]

/-- What `exec` runs of an instruction's micro-ops. -/
abbrev microopsLeft (i : Instr) : List Micro := (microops i).drop (microopsDone i)

/-- Row by row: what `exec` runs waits on the condition in the opcode, if on any (R323). -/
theorem waitsOn_microopsLeft (i : Instr) : waitsOn (condOfOpcode ((encode i).headD 0)) (microopsLeft i) = true := by
  cases i with
  | JR_NZ_e | JR_Z_e | JR_NC_e | JR_C_e | JP_NZ_nn | JP_Z_nn | JP_NC_nn | JP_C_nn | CALL_NZ_nn | CALL_Z_nn | CALL_NC_nn
  | CALL_C_nn =>
    -- The condition is computed from the opcode byte alone, apart from the immediate.
    dsimp only [encode, List.headD_cons]
    rfl
  | _ => rfl

/-- Row by row: the table counts the bus cycles that read the instruction's bytes together with those of the micro-ops left. -/
theorem entry_encode {i : Instr} (h : i.isWhole = true) : entry (encode i) =
    ((encode i).length, microopsDone i + (microopsLeft i).length, microopsDone i + untaken (microopsLeft i)) := by
  cases i with
  | PREFIX_CB => cases h
  | _ => rfl

theorem microopsDone_eq (i : Instr) : microopsDone i = (encode i).length - 1 := by
  unfold microopsDone
  split <;> simp [*]

theorem latchImmediates_regs (i : Instr) (s : State) : (latchImmediates i s).regs = s.regs := by rw [latchImmediates_eq]

theorem latchImmediates_env (i : Instr) (s : State) : (latchImmediates i s).env = s.env := by rw [latchImmediates_eq]

/-- Settles O58: `entry_encode` and `runRest_cycle` count the same micro-ops, of which `exec` runs those after the bytes have been read. -/
theorem cycleCounts : Obligations.CycleCounts := by
  unfold Obligations.CycleCounts
  intro i s t hw h
  obtain ⟨-, hwhole⟩ := Bool.and_eq_true_iff.mp hw
  rw [exec_eq_runFrom hw] at h
  obtain ⟨rfl, -⟩ := finish_eq_next h
  rw [lengthAndCycles_eq_entry, entry_encode hwhole, runRest_cycle (waitsOn_microopsLeft i), withQueue_env, withQueue_regs,
    latchImmediates_env, latchImmediates_regs, ← microopsDone_eq]
  exact ⟨rfl, by dsimp only; split_ifs <;> omega⟩

end Machine
end Sys2Proof
end


section
/-! The engine: an instruction-grained step against the spec's bus cycles (R361 to R371). Within an instruction both run the same micro-ops;
the step reads the bytes first and takes the immediates from the decoded row, the bus cycles fill the latches as they read. -/

namespace Sys2Proof.Machine

/-! ## A refused write stays refused -/

theorem memWrite_refused {s : State} {a : Word} {v : Byte} (h : s.vbkRefused = true) : (memWrite s a v).vbkRefused = true := by
  rw [memWrite_vbkRefused, h, Bool.true_or]

/-- No part of a step takes the refusal of R131 back. -/
theorem refused_stepInvariant : StepInvariant fun s => s.vbkRefused = true where
  tick h := h
  micro {s} op h := by
    cases op with
    | store | storeSpLow | storeSpHigh | resMem | setMem | storeHlInc | storeHlDec | pushHigh | pushLow | pushPcHigh | pushPcLow
    | incMem | decMem | rotMem => exact memWrite_refused h
    | stop =>
      show (stopCpu s).vbkRefused = true
      unfold stopCpu
      split <;> exact h
    | _ => exact h
  dispatchCheck {s} h := by
    unfold dispatchCheck
    split
    · exact memWrite_refused (memWrite_refused h)
    · exact h
  fetchOpcode h := h
  immRead h := h
  engine _ h := h

/-! ## Bus cycles, one after the other -/

theorem endCycle_of_refused {u : State} (h : u.vbkRefused = true) : endCycle u = .refused .vramBank1 := if_pos h

theorem endCycle_of_ok {u : State} (hf : u.eng.fault = none) (hv : u.vbkRefused = false) : endCycle u = .next (cycleTail u) := by
  simp only [endCycle, hf, hv, Bool.false_eq_true, if_false]

theorem busCycles_refused (n : Nat) (r : Refusal) : busCycles n (.refused r) = .refused r := by cases n <;> rfl

/-- The tail of one bus cycle and the head of the next are a `tick`, from CPU phase to CPU phase (R362). -/
theorem busCycles_succ_endCycle {u : State} (n : Nat) (hf : u.eng.fault = none) (hv : u.vbkRefused = false) :
    busCycles (n + 1) (endCycle u) = busCycles n (endCycle (cpuPhase (tick u))) := by
  have hf' : (cycleTail u).eng.fault = none := hf
  have hv' : (cycleTail u).vbkRefused = false := hv
  have hb : busCycle (cycleTail u) = endCycle (cpuPhase (tick u)) := by
    simp only [busCycle, hf', hv', Bool.false_eq_true, if_false]
    rfl
  rw [endCycle_of_ok hf hv, busCycles, hb]

/-! ## The end of an instruction -/

theorem fetchDecode_vbkRefused (s : State) : (fetchDecode s).vbkRefused = s.vbkRefused := by
  unfold fetchDecode; split <;> rfl

/-- The bus cycle in which a step is cut goes on with the dispatch check and the fetch of a running CPU; a refused write ends it (R131,
R365). -/
theorem closeOutcome_finish {t : State} (hf : t.eng.fault = none) :
    closeOutcome (finish t) = endCycle (if t.eng.run = .running then fetchDecode (dispatchCheck t) else t) := by
  cases hv : t.vbkRefused with
  | true =>
    have hend : (if t.eng.run = .running then fetchDecode (dispatchCheck t) else t).vbkRefused = true := by
      split
      · exact (fetchDecode_vbkRefused _).trans (refused_stepInvariant.dispatchCheck hv)
      · exact hv
    rw [finish, if_pos hv, endCycle_of_refused hend]
    rfl
  | false =>
    rw [finish_next hv]
    show closeCycle t = _
    unfold closeCycle
    cases hr : t.eng.run <;> simp [hf, hv]

/-- From the end of the CPU phase that leaves `u`, the bus cycles that the count tells end the one in which an instruction leaves `t`. -/
def BusCyclesTo (u t : State) : Prop :=
  ∃ n, t.env.cycle = u.env.cycle + n ∧ busCycles n (endCycle u) = closeOutcome (finish t)

/-- A refused write stays refused to the end of the CPU phase. -/
theorem cpuPhase_refused {s : State} (h : s.vbkRefused = true) : (cpuPhase s).vbkRefused = true := by
  have hq : (queuePhase s).vbkRefused = true := by
    unfold queuePhase
    split
    · exact refused_stepInvariant.runMicro _ h
    · exact h
  unfold cpuPhase
  split
  · dsimp only
    split
    · exact (fetchDecode_vbkRefused _).trans (refused_stepInvariant.dispatchCheck hq)
    · exact hq
  · split
    · exact h
    · exact (fetchDecode_vbkRefused _).trans (refused_stepInvariant.dispatchCheck h)
  · exact h

/-- A bus cycle and `n` more. A refused write has ended the run before them (R131). -/
theorem BusCyclesTo.intro {u t : State} (n : Nat) (hf : u.eng.fault = none) (hc : t.env.cycle = u.env.cycle + (n + 1))
    (h : busCycles n (endCycle (cpuPhase (tick u))) = closeOutcome (finish t)) : BusCyclesTo u t := by
  refine ⟨n + 1, hc, ?_⟩
  cases hv : u.vbkRefused with
  | true =>
    have hcpu : (cpuPhase (tick u)).vbkRefused = true := cpuPhase_refused hv
    rw [← h, endCycle_of_refused hv, endCycle_of_refused hcpu, busCycles_refused, busCycles_refused]
  | false => rw [busCycles_succ_endCycle n hf hv, h]

/-! ## The micro-ops of an instruction -/

theorem queuePhase_of_drop {s : State} {m : Micro} {rest : List Micro} (h : s.eng.queue.drop s.eng.qi = m :: rest) :
    queuePhase s = runMicro m s := by
  have hm : s.eng.queue[s.eng.qi]? = some m := by rw [← List.head?_drop, h, List.head?_cons]
  simp only [queuePhase, hm]

theorem exhausted_eq_false_of_drop {s : State} (h : s.eng.queue.drop s.eng.qi ≠ []) : exhausted s = false :=
  decide_eq_false (mt List.drop_eq_nil_iff.mpr h)

theorem queuePhase_of_exhausted {s : State} (h : exhausted s = true) : queuePhase s = s := by
  have hnone : s.eng.queue[s.eng.qi]? = none := List.getElem?_eq_none (of_decide_eq_true h)
  simp only [queuePhase, hnone]

/-- While micro-ops are left in the queue, the CPU phase is one of them (R365). -/
theorem cpuPhase_of_not_exhausted {s : State} (hr : s.eng.run = .running) (h : exhausted (queuePhase s) = false) :
    cpuPhase s = queuePhase s := by
  simp only [cpuPhase, hr, h, Bool.false_eq_true, and_false, if_false]

/-- Where the queue is exhausted, a CPU still running goes on to the dispatch check and the fetch (R365). -/
theorem cpuPhase_of_exhausted {s : State} (hr : s.eng.run = .running) (h : exhausted (queuePhase s) = true) :
    cpuPhase s = if (queuePhase s).eng.run = .running then fetchDecode (dispatchCheck (queuePhase s)) else queuePhase s := by
  simp only [cpuPhase, hr, h, and_true]

theorem queuePhase_cycle (s : State) : (queuePhase s).env.cycle = s.env.cycle := by
  unfold queuePhase
  split
  · exact runMicro_cycle _ s
  · rfl

/-- A bus cycle within an instruction: its micro-op leaves more of the queue to run. -/
theorem BusCyclesTo.cons {u t : State} (hf : u.eng.fault = none) (hr : u.eng.run = .running)
    (hleft : exhausted (queuePhase (tick u)) = false) (h : BusCyclesTo (queuePhase (tick u)) t) : BusCyclesTo u t := by
  obtain ⟨n, hn, hrun⟩ := h
  have hc : (queuePhase (tick u)).env.cycle = u.env.cycle + 1 := queuePhase_cycle _
  refine BusCyclesTo.intro n hf (by omega) ?_
  rw [cpuPhase_of_not_exhausted (tick_run_running hr) hleft, hrun]

/-- The last bus cycle of an instruction: where the CPU still runs, the dispatch check and the fetch follow, as they follow the cut of
the step. -/
theorem BusCyclesTo.last {u : State} (hf : u.eng.fault = none) (hr : (tick u).eng.run = .running)
    (hok : (queuePhase (tick u)).eng.ok = true) : BusCyclesTo u (queuePhase (tick u)) := by
  obtain ⟨hq, -, -, hf'⟩ := (Engine.ok_iff _).mp hok
  refine BusCyclesTo.intro 0 hf (queuePhase_cycle _) ?_
  rw [cpuPhase_of_exhausted hr (decide_eq_true hq.ge), closeOutcome_finish hf']
  rfl

/-- Only the last micro-op of a list changes the run state. -/
theorem plainToEnd_cons {m : Micro} {rest : List Micro} (h : plainToEnd (m :: rest) = true) (hrest : rest ≠ []) :
    m.op.isPlain = true ∧ plainToEnd rest = true := by
  simpa [plainToEnd, hrest] using h

/-- A plain micro-op leaves the rest of the queue. -/
theorem drop_queue_bumpQi_micro {s : State} {op : MicroOp} {m : Micro} {rest : List Micro} (hp : op.isPlain = true)
    (h : s.eng.queue.drop s.eng.qi = m :: rest) :
    (bumpQi (micro op s)).eng.queue.drop (bumpQi (micro op s)).eng.qi = rest := by
  obtain ⟨x, v, he⟩ := micro_eng_plain hp s
  simp only [bumpQi, he]
  rw [← List.tail_drop, h, List.tail_cons]

/-- The micro-ops left in the queue, each in a bus cycle of its own, are the run of them (R364, R365, R371). -/
theorem busCyclesTo_runRest {ops : List Micro} {u : State} (hne : ops ≠ []) (ho : plainToEnd ops = true)
    (hq : u.eng.queue.drop u.eng.qi = ops) (hb : u.eng.Busy ops.length) : BusCyclesTo u (runRest ops u) := by
  induction ops generalizing u with
  | nil => exact absurd rfl hne
  | cons m rest ih =>
    have hqp : queuePhase (tick u) = runMicro m (tick u) := queuePhase_of_drop hq
    by_cases hgo : m.holds (tick u) = true ∧ rest ≠ []
    · obtain ⟨hh, hrest⟩ := hgo
      obtain ⟨hplain, ho⟩ := plainToEnd_cons ho hrest
      rw [runMicro_of_holds hh] at hqp
      have hbusy : (queuePhase (tick u)).eng.Busy rest.length := hqp ▸ hb.tick.micro hplain
      have hdrop : (queuePhase (tick u)).eng.queue.drop (queuePhase (tick u)).eng.qi = rest :=
        hqp ▸ drop_queue_bumpQi_micro (s := tick u) hplain hq
      have hleft : exhausted (queuePhase (tick u)) = false := exhausted_eq_false_of_drop (by rwa [hdrop])
      rw [runRest_cons, if_pos hh, runMicro_of_holds hh, ← hqp]
      exact BusCyclesTo.cons hb.fault hb.run hleft (ih hrest ho hdrop hbusy)
    · have hlast : runRest (m :: rest) u = queuePhase (tick u) := by
        rw [runRest_cons, hqp]
        split
        · next hh => rw [not_not.mp fun hrest => hgo ⟨hh, hrest⟩, runRest_nil]
        · rfl
      have hok := hb.runRest ho
      rw [hlast] at hok ⊢
      exact BusCyclesTo.last hb.fault hb.tick.run hok

end Sys2Proof.Machine

namespace Sys2Proof

open Machine

/-! ## The immediate reads of a row -/

/-- The latch that the immediate byte of a row fills: the one its first micro-op reads (R324). -/
def Entry.latch : Entry → Latch
  | .f2 mk =>
    match (microops (mk 0)).head? with
    | some { guard := none, op := .imm l } => l
    | _ => .tmp
  | .f1 _ => .tmp
  | .f3 _ => .tmp
  | .fcb => .tmp

/-- The latches that the immediate reads of a row fill, in their order (R324). -/
def Entry.latches (e : Entry) : List Latch :=
  match e with
  | .f1 _ => []
  | .f2 _ => [e.latch]
  | .f3 _ => [.lsb, .msb]
  | .fcb => []

/-- The latches after the immediate reads of a row, of the byte `n` or of the word `nn`. -/
def Entry.fill (n : Byte) (nn : Word) (e : Entry) (x : Ctx) : Ctx :=
  match e with
  | .f1 _ => x
  | .f2 _ => x.latch e.latch n
  | .f3 _ => (x.latch .lsb (lowByte nn)).latch .msb (highByte nn)
  | .fcb => x

namespace Machine

/-- The list of a row does not depend on its immediates, and it is the queue of the opcode byte (R366, R375). -/
theorem microops_row (op n : Byte) (nn : Word) : microops ((primary op).row n nn) = opcodeMicroops op := by
  obtain ⟨v, hv, rfl⟩ : ∃ v < 256, op = BitVec.ofNat 8 v := ⟨op.toNat, op.isLt, by simp⟩
  interval_cases v <;> rfl

/-- The list of a row begins with its immediate reads (R324, R369). -/
theorem opcodeMicroops_eq_append (op n : Byte) (nn : Word) : opcodeMicroops op =
    ((primary op).latches.map fun l => does (.imm l)) ++ microopsLeft ((primary op).row n nn) := by
  obtain ⟨v, hv, rfl⟩ : ∃ v < 256, op = BitVec.ofNat 8 v := ⟨op.toNat, op.isLt, by simp⟩
  interval_cases v <;> rfl

/-- `exec` takes the immediates of a row where the immediate reads have put them (log 2). -/
theorem latchImmediates_row (op n : Byte) (nn : Word) (s : State) :
    latchImmediates ((primary op).row n nn) s = setCtx s ((primary op).fill n nn) := by
  obtain ⟨v, hv, rfl⟩ : ∃ v < 256, op = BitVec.ofNat 8 v := ⟨op.toNat, op.isLt, by simp⟩
  interval_cases v <;> rfl

/-- A row is well-formed unless its bytes are the byte 0xCB alone or an illegal opcode (R321, R328). -/
theorem wellFormed_of_encode {i : Instr} (hp : encode i ≠ [0xCB]) (hl : ∀ op, encode i = [op] → isIllegalOpcode op = false) :
    i.wellFormed = true := by
  have hw : i.isWhole = true := by
    by_contra h
    rw [Instr.eq_PREFIX_CB_of_not_isWhole (Bool.eq_false_of_not_eq_true h)] at hp
    exact hp rfl
  have hi : i.illegalOpcode = none := by
    cases h : i.illegalOpcode with
    | none => rfl
    | some op =>
      obtain ⟨-, hop, he⟩ := illegalOpcode_spec h
      exact absurd hop (by simp [hl op he])
  rw [Instr.wellFormed, Instr.isLegal, hi, hw]
  rfl

/-- A row of more than one byte is well-formed. -/
theorem wellFormed_of_two_le {i : Instr} (h : 2 ≤ (encode i).length) : i.wellFormed = true :=
  wellFormed_of_encode (fun he => by simp [he] at h) fun op he => by simp [he] at h

/-- The row of a legal opcode byte other than 0xCB is well-formed, whatever its immediates (R326, R328). -/
theorem wellFormed_row {op : Byte} (hop : isIllegalOpcode op = false) (hcb : primary op ≠ .fcb) (n : Byte) (nn : Word) :
    ((primary op).row n nn).wellFormed = true := by
  have he := encode_row_primary op n nn
  cases hp : primary op with
  | fcb => exact absurd hp hcb
  | f1 i =>
    rw [hp] at he
    refine wellFormed_of_encode (fun hpre => ?_) fun op' he' => ?_
    · obtain rfl : op = 0xCB := List.head_eq_of_cons_eq (he.symm.trans hpre)
      exact hcb rfl
    · rwa [← List.head_eq_of_cons_eq (he.symm.trans he')]
  | f2 mk => exact wellFormed_of_two_le (by rw [← hp, he, hp]; simp [Entry.rowBytes])
  | f3 mk => exact wellFormed_of_two_le (by rw [← hp, he, hp]; simp [Entry.rowBytes])

theorem wellFormed_cbInstr (cb : Byte) : (cbInstr cb).wellFormed = true :=
  wellFormed_of_two_le (by simp [encode_cbInstr])

theorem latchImmediates_cbInstr (cb : Byte) (s : State) : latchImmediates (cbInstr cb) s = s := by
  obtain ⟨v, hv, rfl⟩ : ∃ v < 256, cb = BitVec.ofNat 8 v := ⟨cb.toNat, cb.isLt, by simp⟩
  interval_cases v <;> rfl

/-- The list of a CB instruction begins with the micro-op that reads its second byte (R367). -/
theorem microops_cbInstr (cb : Byte) : microops (cbInstr cb) = does .prefixCB :: cbMicroops cb := by
  obtain ⟨v, hv, rfl⟩ : ∃ v < 256, cb = BitVec.ofNat 8 v := ⟨cb.toNat, cb.isLt, by simp⟩
  interval_cases v <;> rfl

/-- A CB instruction runs the micro-ops behind the one that reads its second byte (R367). -/
theorem exec_cbInstr (cb : Byte) (s : State) : exec (cbInstr cb) s =
    finish (runRest (cbMicroops cb) (withQueue s (does .prefixCB :: cbMicroops cb) 1)) := by
  have hk : microopsDone (cbInstr cb) = 1 := by rw [microopsDone_eq, encode_cbInstr]; rfl
  rw [exec_eq_runFrom (wellFormed_cbInstr cb), latchImmediates_cbInstr, microops_cbInstr, hk]
  rfl

/-! ## The fetch -/

theorem fetchDecode_of_legal {d : State} (h : isIllegalOpcode (fetchedOpcode d) = false) :
    fetchDecode d = withQueue (fetchOpcode d) (opcodeMicroops (fetchedOpcode d)) 0 := by
  rw [fetchDecode, if_neg (by simp [h])]
  rfl

/-- The step reads as many bytes after the opcode as its row has immediate reads. -/
theorem microopsDone_row (op n : Byte) (nn : Word) : microopsDone ((primary op).row n nn) = (primary op).latches.length := by
  rw [microopsDone_eq, encode_row_primary]
  cases primary op <;> rfl

/-- The immediate reads of a row, run from its fetch on, read its bytes and fill its latches (R324, R364). -/
theorem runRest_latches (e : Entry) (rest q : List Micro) (d : State) :
    runRest ((e.latches.map fun l => does (.imm l)) ++ rest) (withQueue (fetchOpcode d) q 0) =
      runRest rest (withQueue (setCtx (bytesRead e.latches.length d)
        (e.fill (fetchedByte 1 d) (immWord (fetchedByte 1 d) (fetchedByte 2 d)))) q e.latches.length) := by
  cases e with
  | f3 mk =>
    have hlow : lowByte (immWord (fetchedByte 1 d) (fetchedByte 2 d)) = fetchedByte 1 d := lowByte_word _ _
    have hhigh : highByte (immWord (fetchedByte 1 d) (fetchedByte 2 d)) = fetchedByte 2 d := highByte_word _ _
    simp only [setCtx, Entry.fill, hlow, hhigh]
    rfl
  | _ => rfl

theorem runFetched_of_ne_fcb {d : State} (h : primary (fetchedOpcode d) ≠ .fcb) : runFetched d =
    exec ((primary (fetchedOpcode d)).row (fetchedByte 1 d) (immWord (fetchedByte 1 d) (fetchedByte 2 d)))
      (bytesRead (primary (fetchedOpcode d)).latches.length d) := by
  unfold runFetched fetchedByte
  cases hp : primary (fetchedOpcode d) with
  | fcb => exact absurd hp h
  | _ => rfl

/-- A legal opcode other than 0xCB: what the step runs after reading the bytes is the run of the opcode's queue from the
fetch on (R365, R366, log 2). -/
theorem runFetched_of_legal {d : State} (hop : isIllegalOpcode (fetchedOpcode d) = false) (hcb : primary (fetchedOpcode d) ≠ .fcb) :
    runFetched d = finish (runRest (opcodeMicroops (fetchedOpcode d)) (fetchDecode d)) := by
  rw [runFetched_of_ne_fcb hcb, exec_eq_runFrom (wellFormed_row hop hcb _ _), runFrom, latchImmediates_row, microopsDone_row,
    microops_row, fetchDecode_of_legal hop]
  conv_rhs => arg 1; arg 1; rw [opcodeMicroops_eq_append _ (fetchedByte 1 d) (immWord (fetchedByte 1 d) (fetchedByte 2 d))]
  rw [runRest_latches, microopsLeft, microops_row, microopsDone_row]

end Machine
end Sys2Proof

namespace Sys2Proof.Machine

/-! ## A step -/

/-- The queue of a legal opcode byte other than 0xCB is plain to its end and not empty (R364, R368). -/
theorem runsFrom_opcodeMicroops (op : Byte) : isIllegalOpcode op = false → op ≠ 0xCB →
    runsFrom 0 (opcodeMicroops op) = true ∧ opcodeMicroops op ≠ [] := by
  revert op
  decide

theorem cbMicroops_ne_nil (cb : Byte) : cbMicroops cb ≠ [] := by
  revert cb
  decide

/-- After a fetch, a queue not yet begun, or with its first micro-op run, is run by the bus cycles (R364, R365). -/
theorem busCyclesTo_withQueue {u : State} {ops : List Micro} {k : Nat} (hu : u.eng.Fetched) (ho : runsFrom k ops = true)
    (hne : ops.drop k ≠ []) : BusCyclesTo (withQueue u ops k) (runRest (ops.drop k) (withQueue u ops k)) := by
  obtain ⟨hp, hk, h6⟩ := (runsFrom_iff k ops).mp ho
  exact busCyclesTo_runRest hne hp rfl (hu.withQueue hk h6)

/-- The bus cycle after the fetch of the byte 0xCB reads the second byte and puts its micro-ops into the queue (R367). -/
theorem queuePhase_prefixCB (d : State) : queuePhase (tick (withQueue (fetchOpcode d) Microcode.prefixCB 0)) =
    withQueue (bytesRead 1 d) (does .prefixCB :: cbMicroops (fetchedByte 1 d)) 1 :=
  (queuePhase_of_drop (m := does .prefixCB) (rest := []) rfl).trans rfl

/-- From the fetch of a legal opcode on, the bus cycles run the instruction (R365, R366, R367). -/
theorem runFetched_busCyclesTo {d : State} (hr : d.eng.run = .running) (hf : d.eng.fault = none)
    (hop : isIllegalOpcode (fetchedOpcode d) = false) : ∃ t, runFetched d = finish t ∧ BusCyclesTo (fetchDecode d) t := by
  by_cases hcb : primary (fetchedOpcode d) = .fcb
  · have hrun : runFetched d = exec (cbInstr (fetchedByte 1 d)) (bytesRead 1 d) := by
      unfold runFetched
      rw [show fetchedByte 0 d = fetchedOpcode d from rfl, hcb]
    have hfetch : fetchDecode d = withQueue (fetchOpcode d) Microcode.prefixCB 0 := by
      rw [fetchDecode_of_legal hop, opcodeMicroops, hcb]
    have hne := cbMicroops_ne_nil (fetchedByte 1 d)
    refine ⟨_, hrun.trans (exec_cbInstr _ _), ?_⟩
    rw [hfetch]
    refine BusCyclesTo.cons hf hr ?_ ?_ <;> rw [queuePhase_prefixCB]
    · exact exhausted_eq_false_of_drop hne
    · exact busCyclesTo_withQueue (fetched_bytesRead 1 hr hf) (microops_cbInstr _ ▸ runsFrom_cb _) hne
  · refine ⟨_, runFetched_of_legal hop hcb, ?_⟩
    obtain ⟨ho, hne⟩ := runsFrom_opcodeMicroops _ hop fun h => hcb (by rw [h]; rfl)
    rw [fetchDecode_of_legal hop]
    exact busCyclesTo_withQueue (k := 0) (fetched_bytesRead 0 hr hf) ho hne

/-- The row of an illegal opcode byte has no immediates (R328). -/
theorem primary_of_illegal {op : Byte} (h : isIllegalOpcode op = true) : ∃ i, primary op = .f1 i ∧ i.illegalOpcode = some op := by
  have hi := illegalOpcode_row_primary op h
  obtain ⟨-, -, he⟩ := illegalOpcode_spec hi
  rw [encode_row_primary] at he
  cases hp : primary op with
  | f1 i => exact ⟨i, rfl, by rwa [hp] at hi⟩
  | f2 mk => simp [hp, Entry.rowBytes] at he
  | f3 mk => simp [hp, Entry.rowBytes] at he
  | fcb => rw [hp] at hi; cases hi

/-- The fetch of an illegal opcode ends the step and the bus cycle with the same fault (R370). -/
theorem runFetched_of_illegal {d : State} (hv : d.vbkRefused = false) (hop : isIllegalOpcode (fetchedOpcode d) = true) :
    runFetched d = endCycle (fetchDecode d) ∧ ∀ t, runFetched d ≠ .next t := by
  obtain ⟨i, hp, hi⟩ := primary_of_illegal hop
  have hrun : runFetched d = illegal (fetchedOpcode d) (fetchOpcode d) := by
    rw [← exec_illegal hi]
    unfold runFetched
    rw [show fetchedByte 0 d = fetchedOpcode d from rfl, hp]
    rfl
  have hfetch : endCycle (fetchDecode d) = illegal (fetchedOpcode d) (fetchOpcode d) := by
    have hv' : (fetchDecode d).vbkRefused = false := (fetchDecode_vbkRefused d).trans hv
    rw [endCycle, if_neg (by simp [hv']), fetchDecode, if_pos hop]
    rfl
  exact ⟨hrun.trans hfetch.symm, fun t ht => nomatch hrun.symm.trans ht⟩

theorem closeCycle_of_running {s : State} (hr : s.eng.run = .running) (hf : s.eng.fault = none) (hv : s.vbkRefused = false) :
    closeCycle s = endCycle (fetchDecode (dispatchCheck s)) := by
  simp [closeCycle, hr, hf, hv]

theorem closeCycle_of_not_running {s : State} (hr : s.eng.run ≠ .running) : closeCycle s = endCycle s := by
  unfold closeCycle
  cases h : s.eng.run with
  | running => exact absurd h hr
  | _ => rfl

theorem dispatchCheck_cycle (s : State) : (dispatchCheck s).env.cycle = s.env.cycle := by
  unfold dispatchCheck
  split
  · exact (memWrite_cycle ..).trans (memWrite_cycle ..)
  · rfl

theorem fetchDecode_cycle (s : State) : (fetchDecode s).env.cycle = s.env.cycle := by
  unfold fetchDecode; split <;> rfl

/-- The step of a running CPU: the dispatch check may be refused, and the opcode fetched after it be illegal (R131, R365, R370). -/
theorem runStep_busCycles {s : State} (hr : s.eng.run = .running) (hf : s.eng.fault = none) (hv : s.vbkRefused = false) :
    (runStep s = closeCycle s ∧ ∀ t, runStep s ≠ .next t) ∨
      ∃ u t, closeCycle s = endCycle u ∧ u.env.cycle = s.env.cycle ∧ runStep s = finish t ∧ BusCyclesTo u t := by
  obtain ⟨v, he⟩ := dispatchCheck_eng s
  rw [closeCycle_of_running hr hf hv]
  cases hd : (dispatchCheck s).vbkRefused with
  | true =>
    have hrun : runStep s = .refused .vramBank1 := if_pos hd
    rw [endCycle_of_refused ((fetchDecode_vbkRefused _).trans hd), hrun]
    exact .inl ⟨rfl, fun t => nofun⟩
  | false =>
    have hrun : runStep s = runFetched (dispatchCheck s) := if_neg (by simp [hd])
    rw [hrun]
    cases hop : isIllegalOpcode (fetchedOpcode (dispatchCheck s)) with
    | true => exact .inl (runFetched_of_illegal hd hop)
    | false =>
      obtain ⟨t, ht, hbus⟩ := runFetched_busCyclesTo (d := dispatchCheck s) (by rw [he]; exact hr) (by rw [he]; exact hf) hop
      exact .inr ⟨_, t, rfl, (fetchDecode_cycle _).trans (dispatchCheck_cycle s), ht, hbus⟩

theorem tick_run_halted {s : State} (h : s.eng.run = .halted) : (tick s).eng.run = .halted := by
  show (match s.eng.run with | .stopped => _ | .running => RunState.running | .halted => RunState.halted) = _
  rw [h]

/-- A joypad line that falls wakes a stopped CPU (R614). -/
theorem tick_run_stopped {s : State} (h : s.eng.run = .stopped) :
    (tick s).eng.run = if keyEdge (timerPhase (dmaPhase s)) then .running else .stopped := by
  show (match s.eng.run with | .stopped => (if keyEdge _ then RunState.running else .stopped) | .running => _ | .halted => _) = _
  rw [h]

/-- A bus cycle of a halted CPU: it wakes, with the dispatch check and the fetch after it, or stays halted (R365, R612). -/
theorem busCyclesTo_haltedStep {s : State} (hr : s.eng.run = .halted) (hf : s.eng.fault = none) : BusCyclesTo s (haltedStep s) := by
  have hr' := tick_run_halted hr
  refine BusCyclesTo.intro 0 hf rfl ?_
  rw [closeOutcome_finish (t := haltedStep s) hf]
  by_cases hp : pending (tick s) = 0
  · have hstep : haltedStep s = tick s := by simp only [haltedStep, hp, if_true]
    have hcpu : cpuPhase (tick s) = tick s := by simp only [cpuPhase, hr', hp, if_true]
    rw [hstep, hcpu, if_neg (by simp [hr'])]
    rfl
  · have hstep : haltedStep s = { tick s with eng := { (tick s).eng with run := .running } } := by
      simp only [haltedStep, hp, if_false]
    have hcpu : cpuPhase (tick s) = fetchDecode (dispatchCheck (haltedStep s)) := by
      simp only [cpuPhase, hr', hp, if_false, hstep]
    rw [hcpu, if_pos (by rw [hstep])]
    rfl

/-- A bus cycle of a stopped CPU: a joypad line that falls at its end wakes it for the CPU phase of the next (R614). -/
theorem busCyclesTo_tick {s : State} (hr : s.eng.run = .stopped) (hok : s.eng.ok = true) : BusCyclesTo s (tick s) := by
  obtain ⟨hq, -, -, hf⟩ := (Engine.ok_iff _).mp hok
  have hr' := tick_run_stopped hr
  split at hr'
  · have hqp : queuePhase (tick s) = tick s := queuePhase_of_exhausted (decide_eq_true hq.ge)
    have hok' : (tick s).eng.ok = true := tick_eng_ok (tick s).eng.run hok (by simp [hr])
    have hlast : BusCyclesTo s (queuePhase (tick s)) := BusCyclesTo.last hf hr' (by rw [hqp, hok'])
    rwa [hqp] at hlast
  · have hcpu : cpuPhase (tick s) = tick s := by simp only [cpuPhase, hr']
    refine BusCyclesTo.intro 0 hf rfl ?_
    rw [closeOutcome_finish (t := tick s) hf, hcpu, if_neg (by simp [hr'])]
    rfl

/-- A step is refused or faults as the bus cycle does in which it begins, or the bus cycles run it. -/
theorem step_busCycles {s : State} (hs : s.ok = true) : (step s = closeCycle s ∧ ∀ t, step s ≠ .next t) ∨
    ∃ u t, closeCycle s = endCycle u ∧ u.env.cycle = s.env.cycle ∧ step s = finish t ∧ BusCyclesTo u t := by
  obtain ⟨-, hok, -, hv⟩ := s.ok_iff.mp hs
  obtain ⟨-, -, -, hf⟩ := (Engine.ok_iff _).mp hok
  cases hr : s.eng.run with
  | running => rw [step_of_running hf hv hr]; exact runStep_busCycles hr hf hv
  | halted =>
    have hstep : step s = finish (haltedStep s) := by
      rw [finish_next (s := haltedStep s) hv]
      simp only [step, hf, hv, hr, Bool.false_eq_true, if_false]
    exact .inr ⟨s, _, closeCycle_of_not_running (by simp [hr]), rfl, hstep, busCyclesTo_haltedStep hr hf⟩
  | stopped =>
    have hstep : step s = finish (tick s) := by
      rw [finish_next (s := tick s) hv]
      simp only [step, hf, hv, hr, Bool.false_eq_true, if_false]
    exact .inr ⟨s, _, closeCycle_of_not_running (by simp [hr]), rfl, hstep, busCyclesTo_tick hr hok⟩

/-- Settles O60: by `step_busCycles` a step ends with the bus cycle it begins in, or the bus cycles it counts lead to its end. -/
theorem stepIsBusCycles : Obligations.StepIsBusCycles := by
  unfold Obligations.StepIsBusCycles
  intro s hs
  rcases step_busCycles hs with ⟨hstep, hnext⟩ | ⟨u, t, hclose, hu, hstep, n, hn, hrun⟩
  · rw [hstep] at hnext ⊢
    exact ⟨fun t ht => absurd ht (hnext t), fun f hf => hf, fun r hr => ⟨0, hr⟩⟩
  · rw [hclose, hstep]
    refine ⟨fun t' ht => ?_, fun f hf => ?_, fun r hr => ⟨n, ?_⟩⟩
    · obtain ⟨rfl, -⟩ := finish_eq_next ht
      rw [ht] at hrun
      rw [show t'.env.cycle - s.env.cycle = n by omega, hrun]
      rfl
    · cases hv : t.vbkRefused <;> simp [finish, hv] at hf
    · rw [hrun, hr]
      rfl

end Sys2Proof.Machine
end


section
/-! The engine: the IME advance with the delay of EI (R363), and the byte 0xCB as the instruction of the byte after it (R367). -/

namespace Sys2Proof.Machine

/-! ## The delay of EI (R363) -/

theorem dispatchCheck_of_not_enabled {s : State} (h : s.eng.ime ≠ .enabled) : dispatchCheck s = s := by
  have hd : dispatches s = false := by simp [dispatches, h]
  rw [dispatchCheck, hd]
  rfl

/-- IME that has become ENABLED stays so while the CPU does nothing. -/
theorem elapse_ime_enabled {s : State} (h : (tick (tick s)).eng.ime = .enabled) (n : Nat) :
    (elapse (n + 2) s).eng.ime = .enabled := by
  induction n with
  | zero => exact h
  | succ n ih => rw [elapse_succ, tick_eng_ime, ih]; rfl

/-- Settles O32: the advance by its four cases; EI leaves REQUESTED, which two advances make ENABLED. -/
theorem eiDelay : Obligations.EiDelay := by
  unfold Obligations.EiDelay
  refine ⟨fun s => ?_, fun s hv hi => ?_⟩
  · rw [tick_eng_ime]
    cases s.eng.ime <;> rfl
  · have hexec : exec .EI s = .next (runRest Microcode.ei (withQueue s Microcode.ei 0)) :=
      finish_next (s := runRest Microcode.ei (withQueue s Microcode.ei 0)) hv
    have hreq : (runRest Microcode.ei (withQueue s Microcode.ei 0)).eng.ime = .requested := by
      show (requestIme (tick s)).eng.ime = .requested
      rw [requestIme_eq, tick_eng_ime, hi]
      rfl
    refine ⟨_, hexec, hreq, ?_⟩
    generalize runRest Microcode.ei (withQueue s Microcode.ei 0) = t at hreq
    have henabling : (tick t).eng.ime = .enabling := by rw [tick_eng_ime, hreq]; rfl
    have henabled : (tick (tick t)).eng.ime = .enabled := by rw [tick_eng_ime, henabling]; rfl
    exact ⟨dispatchCheck_of_not_enabled (by rw [hreq]; decide), henabling, dispatchCheck_of_not_enabled (by rw [henabling]; decide),
      elapse_ime_enabled henabled⟩

/-! ## The byte 0xCB (R367) -/

theorem eq_of_ioReg_vbk {cgb : Bool} {a : Word} (h : ioReg cgb a = .vbk) : cgb = true ∧ a = 0xFF4F := by
  unfold ioReg at h
  split_ifs at h with _ _ _ _ _ _ _ _ hvbk
  exact hvbk.symm

/-- Only a write of VBK on CGB can be the refused one (R131). -/
theorem selectsVramBank1_eq_false {cgb : Bool} {a : Word} (v : Byte) (h : cgb = false ∨ a ≠ 0xFF4F) :
    selectsVramBank1 cgb a v = false := by
  have hreg : ioReg cgb a ≠ .vbk := fun hr => by
    obtain ⟨hc, ha⟩ := eq_of_ioReg_vbk hr
    rcases h with h | h
    · rw [h] at hc; cases hc
    · exact h ha
  simp [selectsVramBank1, hreg]

/-- The micro-ops of the CB instructions at HL, which change F alone of the registers. -/
def MicroOp.isAtHl : MicroOp → Bool
  | .load .hl => true
  | .rotMem _ => true
  | .bitTmp _ => true
  | .resMem _ => true
  | .setMem _ => true
  | .pad => true
  | _ => false

/-- The micro-ops of the CB instructions on a register. -/
def MicroOp.isOnReg : MicroOp → Bool
  | .rotReg _ _ => true
  | .bitReg _ _ => true
  | .resReg _ _ => true
  | .setReg _ _ => true
  | _ => false

/-- Unconditional micro-ops at HL, after which one on a register may stand last. -/
def atHlToEnd : List Micro → Bool
  | [] => true
  | m :: rest => m.guard.isNone && (m.op.isAtHl || (m.op.isOnReg && rest.isEmpty)) && atHlToEnd rest

theorem atHlToEnd_cbMicroops (cb : Byte) : atHlToEnd (cbMicroops cb) = true := by
  revert cb
  decide

/-- What every micro-op of a CB instruction leaves alone where its write is not the refused one. -/
structure KeptByCb (s t : State) : Prop where
  vbkRefused : t.vbkRefused = s.vbkRefused
  pc : t.regs.pc = s.regs.pc
  sp : t.regs.sp = s.regs.sp

/-- HL does not point at VBK on CGB: no write there is refused (R131). -/
def HlNotVbk (s : State) : Prop := s.params.cgb = false ∨ s.regs.hl ≠ 0xFF4F

theorem memWrite_hl_vbkRefused {s : State} (v : Byte) (h : HlNotVbk s) : (memWrite s s.regs.hl v).vbkRefused = s.vbkRefused := by
  rw [memWrite_vbkRefused, selectsVramBank1_eq_false v h, Bool.or_false]

/-- A write at HL, with F changed or not, leaves PC, SP, HL and the refusal latch alone. -/
theorem memWrite_hl_kept {s : State} (f v : Byte) (h : HlNotVbk s) :
    KeptByCb s (memWrite (setF s f) s.regs.hl v) ∧ HlNotVbk (memWrite (setF s f) s.regs.hl v) := by
  have hr : (memWrite (setF s f) s.regs.hl v).regs = { s.regs with f := f } := memWrite_regs ..
  have hp : (memWrite (setF s f) s.regs.hl v).params = s.params := memWrite_params ..
  refine ⟨⟨memWrite_hl_vbkRefused (s := setF s f) v h, by rw [hr], by rw [hr]⟩, ?_⟩
  rw [HlNotVbk, hp, hr]
  exact h

theorem micro_isAtHl {op : MicroOp} (h : op.isAtHl = true) {s : State} (hl : HlNotVbk s) :
    KeptByCb s (micro op s) ∧ HlNotVbk (micro op s) := by
  cases op with
  | load m => cases m with
    | hl => exact ⟨⟨rfl, rfl, rfl⟩, hl⟩
    | _ => cases h
  | bitTmp | pad => exact ⟨⟨rfl, rfl, rfl⟩, hl⟩
  | rotMem => exact memWrite_hl_kept _ _ hl
  | resMem | setMem => exact memWrite_hl_kept s.regs.f _ hl
  | _ => cases h

theorem micro_isOnReg {op : MicroOp} (h : op.isOnReg = true) (s : State) : KeptByCb s (micro op s) := by
  cases op with
  | rotReg _ r | resReg _ r | setReg _ r => exact ⟨rfl, s.regs.set_keeps_pc r _, s.regs.set_keeps_sp r _⟩
  | bitReg => exact ⟨rfl, rfl, rfl⟩
  | _ => cases h

theorem isPlain_of_isAtHl_or_isOnReg {op : MicroOp} (h : op.isAtHl = true ∨ op.isOnReg = true) : op.isPlain = true := by
  cases op with
  | halt | stop | prefixCB => simp [MicroOp.isAtHl, MicroOp.isOnReg] at h
  | _ => rfl

/-- The micro-ops after the byte 0xCB run to the end of the queue. -/
theorem runRest_atHlToEnd {ops : List Micro} {u : State} (ho : atHlToEnd ops = true) (hl : HlNotVbk u)
    (hq : u.eng.qi + ops.length = u.eng.queue.length) : KeptByCb u (runRest ops u) ∧ exhausted (runRest ops u) = true := by
  induction ops generalizing u with
  | nil => exact ⟨⟨rfl, rfl, rfl⟩, decide_eq_true hq.ge⟩
  | cons m rest ih =>
    obtain ⟨guard, op⟩ := m
    simp only [atHlToEnd, Bool.and_eq_true, Bool.or_eq_true, Option.isNone_iff_eq_none, List.isEmpty_iff] at ho
    obtain ⟨⟨rfl, hop⟩, hrest⟩ := ho
    have hplain := isPlain_of_isAtHl_or_isOnReg (hop.imp_right And.left)
    have hq' : (runMicro (does op) (tick u)).eng.qi + rest.length = (runMicro (does op) (tick u)).eng.queue.length := by
      obtain ⟨x, v, he⟩ := micro_eng_plain hplain (tick u)
      rw [runMicro_does, he]
      simp only [List.length_cons] at hq
      show u.eng.qi + 1 + rest.length = u.eng.queue.length
      omega
    rw [runRest_does]
    rcases hop with hat | ⟨hon, rfl⟩
    · obtain ⟨⟨hv, hpc, hsp⟩, hl'⟩ := micro_isAtHl (s := tick u) hat hl
      obtain ⟨⟨hv', hpc', hsp'⟩, hend⟩ := ih hrest (u := runMicro (does op) (tick u)) hl' hq'
      exact ⟨⟨hv'.trans hv, hpc'.trans hpc, hsp'.trans hsp⟩, hend⟩
    · obtain ⟨hv, hpc, hsp⟩ := micro_isOnReg hon (tick u)
      exact ⟨⟨hv, hpc, hsp⟩, decide_eq_true hq'.ge⟩

/-- The byte 0xCB is the CB instruction of the byte after it (R367). -/
theorem exec_PREFIX_CB (s : State) :
    exec .PREFIX_CB s = exec (cbInstr (read8 (tick s) s.regs.pc)) (immRead (tick s)) := by
  rw [exec_cbInstr]
  rfl

/-- Settles O29: what follows the first micro-op are micro-ops at HL or one on a register, and only a write of VBK is refused. -/
theorem prefixByteRunsCb : Obligations.PrefixByteRunsCb := by
  unfold Obligations.PrefixByteRunsCb
  refine fun s hv => ⟨exec_PREFIX_CB s, fun hl => ?_⟩
  rw [exec_PREFIX_CB, exec_cbInstr]
  generalize read8 (tick s) s.regs.pc = cb
  obtain ⟨⟨hv', hpc, hsp⟩, hend⟩ := runRest_atHlToEnd (atHlToEnd_cbMicroops cb)
    (u := withQueue (immRead (tick s)) (does .prefixCB :: cbMicroops cb) 1) hl (Nat.add_comm ..)
  exact ⟨_, finish_next (hv'.trans hv), hpc, hsp, hend⟩

end Sys2Proof.Machine
end


section
/-! The 8-bit loads (R401 to R419): what the micro-ops of a load or a store do to a state in normal form, the instruction they make
together, and the four statements as uses of it. -/

namespace Sys2Proof.Machine

/-! ## The bytes of an instruction -/

theorem immLow_eq_lowByte (nn : Word) : immLow nn = lowByte nn := BitVec.setWidth_eq_extractLsb' (by decide)

theorem encode_ldReg (y r : Reg8) : encode (Instr.ldReg y r) = [0x40 ||| (regCode y <<< 3) ||| regCode r] := by
  cases y <;> cases r <;> rfl

theorem encode_ldImm (r : Reg8) (n : Byte) : encode (Instr.ldImm r n) = [0x06 ||| (regCode r <<< 3), n] := by cases r <;> rfl

theorem encode_ldFromHl (r : Reg8) : encode (Instr.ldFromHl r) = [0x46 ||| (regCode r <<< 3)] := by cases r <;> rfl

theorem encode_ldToHl (r : Reg8) : encode (Instr.ldToHl r) = [0x70 ||| regCode r] := by cases r <;> rfl

theorem encode_LD_A_mnn (nn : Word) : encode (.LD_A_mnn nn) = [0xFA, lowByte nn, highByte nn] :=
  congrArg (fun lo => [0xFA, lo, highByte nn]) (immLow_eq_lowByte nn)

theorem encode_LD_mnn_A (nn : Word) : encode (.LD_mnn_A nn) = [0xEA, lowByte nn, highByte nn] :=
  congrArg (fun lo => [0xEA, lo, highByte nn]) (immLow_eq_lowByte nn)

/-! ## What a micro-op does to the CPU's part of a state -/

namespace MicroOp

/-- The micro-op, begun with the registers `r` and the latches `x`, leaves the registers `r'` and does nothing else. -/
def Computes (op : MicroOp) (r : Regs) (x : Ctx) (r' : Regs) : Prop :=
  ∀ s q k, micro op (withCpu s r x q k) = withCpu s r' x q k

/-- The micro-op, begun with the registers `r` and the latches `x`, reads the byte at `a` into `ctx.tmp` and leaves the registers `r'`. -/
def Loads (op : MicroOp) (r : Regs) (x : Ctx) (a : Word) (r' : Regs) : Prop :=
  ∀ s q k, micro op (withCpu s r x q k) = withCpu (memRead s a) r' { x with tmp := read8 s a } q k

/-- The micro-op, begun with the registers `r` and the latches `x`, writes `v` at `a` and leaves the registers `r'`. -/
def Stores (op : MicroOp) (r : Regs) (x : Ctx) (a : Word) (v : Byte) (r' : Regs) : Prop :=
  ∀ s q k, micro op (withCpu s r x q k) = withCpu (memWrite s a v) r' x q k

variable (r : Regs) (x : Ctx)

theorem copyReg_computes (y z : Reg8) : (copyReg y z).Computes r x (r.set y (r.get z)) := fun _ _ _ => rfl

theorem regFromTmp_computes (y : Reg8) : (regFromTmp y).Computes r x (r.set y x.tmp) := fun _ _ _ => rfl

theorem pad_computes : pad.Computes r x r := fun _ _ _ => rfl

theorem load_loads (m : AddrMode) : (load m).Loads r x (address m r x) r := fun _ _ _ => rfl

theorem loadHlInc_loads : loadHlInc.Loads r x r.hl (r.setHl (r.hl + 1)) := fun _ _ _ => rfl

theorem loadHlDec_loads : loadHlDec.Loads r x r.hl (r.setHl (r.hl - 1)) := fun _ _ _ => rfl

theorem store_stores (m : AddrMode) (v : Src) : (store m v).Stores r x (address m r x) (v.value r x) r :=
  fun s q k => memWrite_withCpu s r x q k _ _

theorem storeHlInc_stores : storeHlInc.Stores r x r.hl r.a (r.setHl (r.hl + 1)) := fun s q k =>
  congrArg (setRegs · fun g => g.setHl (g.hl + 1)) (memWrite_withCpu s r x q k r.hl r.a)

theorem storeHlDec_stores : storeHlDec.Stores r x r.hl r.a (r.setHl (r.hl - 1)) := fun s q k =>
  congrArg (setRegs · fun g => g.setHl (g.hl - 1)) (memWrite_withCpu s r x q k r.hl r.a)

end MicroOp

/-- The two immediate bytes of a word are its address again (R324). -/
theorem address_nn_withNn (r : Regs) (nn : Word) (s : State) : address .nn r (withNn nn s).eng.ctx = nn := Ctx.nn_latch_bytes _ nn

/-! ## The instructions they make -/

section Runs
variable {s : State} {r r' : Regs} {x : Ctx} {q ops : List Micro} {j k : Nat} {op : MicroOp} {a : Word} {v : Byte} {y : Reg8}

theorem runFrom_withCpu : runFrom k ops (withCpu s r x q j) = finish (runRest (ops.drop k) (withCpu s r x ops k)) := rfl

theorem length_le_of_drop {l rest : List Micro} (h : l.drop k = rest) : l.length ≤ k + rest.length := by
  rw [← h, List.length_drop]
  omega

/-- One micro-op on registers makes an instruction that ends one bus cycle later. -/
theorem completes_computes (hv : s.vbkRefused = false) (hop : op.Computes r x r') (hops : ops.drop k = [does op]) :
    Completes (runFrom k ops (withCpu s r x q j)) r' (tick s) s := by
  rw [runFrom_withCpu, hops, runRest_does_withCpu, hop, runRest_nil, bumpQi_withCpu]
  exact completes_finish hv (length_le_of_drop hops) fun b hb => read8_tick hb

/-- A loading micro-op and the move from `ctx.tmp` make a load: it reads in its first bus cycle (R124, R403). -/
theorem completes_loads (hv : s.vbkRefused = false) (hop : op.Loads r x a r')
    (hops : ops.drop k = [does op, does (.regFromTmp y)]) :
    Completes (runFrom k ops (withCpu s r x q j)) (r'.set y (read8 (tick s) a)) (tick (memRead (tick s) a)) s := by
  rw [runFrom_withCpu, hops, runRest_does_withCpu, hop, bumpQi_withCpu, runRest_does_withCpu, MicroOp.regFromTmp_computes,
    runRest_nil, bumpQi_withCpu]
  exact completes_finish hv (length_le_of_drop hops) fun b hb =>
    (read8_tick_memRead (steady_tick hb)).trans (read8_tick hb)

/-- A storing micro-op and an idle bus cycle make a store: it writes in its first bus cycle (R124, R404). -/
theorem runFrom_stores (hop : op.Stores r x a v r') (hops : ops.drop k = [does op, does .pad]) :
    runFrom k ops (withCpu s r x q j) = finish (withCpu (tick (memWrite (tick s) a v)) r' x ops (k + 2)) := by
  rw [runFrom_withCpu, hops, runRest_does_withCpu, hop, bumpQi_withCpu, runRest_does_withCpu, MicroOp.pad_computes,
    runRest_nil, bumpQi_withCpu]

theorem vbkRefused_tick_memWrite_tick (hv : s.vbkRefused = false) :
    (tick (memWrite (tick s) a v)).vbkRefused = selectsVramBank1 s.params.cgb a v := by
  rw [tick_vbkRefused, memWrite_vbkRefused, tick_vbkRefused, tick_params, hv, Bool.false_or]

theorem finish_refused {t : State} (h : t.vbkRefused = true) : finish t = .refused .vramBank1 := if_pos h

/-- The store that selects VRAM bank 1 is refused (R131). -/
theorem refused_stores (hv : s.vbkRefused = false) (hsel : selectsVramBank1 s.params.cgb a v = true) (hop : op.Stores r x a v r')
    (hops : ops.drop k = [does op, does .pad]) : runFrom k ops (withCpu s r x q j) = .refused .vramBank1 := by
  rw [runFrom_stores hop hops]
  exact finish_refused ((vbkRefused_tick_memWrite_tick hv).trans hsel)

/-- Every other store completes: what it wrote is there, and what it does not reach is as it was. -/
theorem completesStoring_stores (hv : s.vbkRefused = false) (hsel : ¬ selectsVramBank1 s.params.cgb a v = true)
    (hop : op.Stores r x a v r') (hops : ops.drop k = [does op, does .pad]) :
    CompletesStoring (runFrom k ops (withCpu s r x q j)) r' (tick (memWrite (tick s) a v)) s a v := by
  rw [runFrom_stores hop hops]
  refine completesStoring_finish ((vbkRefused_tick_memWrite_tick hv).trans (Bool.eq_false_iff.mpr hsel)) (length_le_of_drop hops)
    (fun c hc hs => ?_) fun b hb hr => ?_
  · exact (read8_tick_memWrite_same v ((cellAt_tick s a).trans hc) (steady_tick hs)).1
  · exact (read8_tick_memWrite_other (steady_tick hb) ((reaches_tick s a b).trans hr)).trans (read8_tick hb)

/-- A store is refused or completes (R131). -/
theorem refused_or_completesStoring (hv : s.vbkRefused = false) (hop : op.Stores r x a v r')
    (hops : ops.drop k = [does op, does .pad]) :
    if selectsVramBank1 s.params.cgb a v then runFrom k ops (withCpu s r x q j) = .refused .vramBank1
    else CompletesStoring (runFrom k ops (withCpu s r x q j)) r' (tick (memWrite (tick s) a v)) s a v := by
  split
  · next hsel => exact refused_stores hv hsel hop hops
  · next hsel => exact completesStoring_stores hv hsel hop hops

end Runs

/-! ## The statements -/

/-- Settles O1: each form is one micro-op on registers. -/
theorem loadRegister : Obligations.LoadRegister := by
  unfold Obligations.LoadRegister
  refine fun y s hv => ⟨fun r => ⟨encode_ldReg y r, ?_⟩, fun n => ⟨encode_ldImm y n, ?_⟩⟩
  · rw [exec_ldReg]
    exact completes_computes hv (MicroOp.copyReg_computes s.regs s.eng.ctx y r) rfl
  · rw [exec_ldImm]
    exact completes_computes hv (MicroOp.regFromTmp_computes s.regs (withTmp n s).eng.ctx y) rfl

/-- Settles O2: each form is a load by its addressing mode, with the latches its immediate bytes have filled. -/
theorem loadFromMemory : Obligations.LoadFromMemory := by
  unfold Obligations.LoadFromMemory
  intro s hv
  refine ⟨fun r => ⟨encode_ldFromHl r, ?_⟩, ⟨rfl, ?_⟩, ⟨rfl, ?_⟩, ⟨rfl, ?_⟩, fun nn => ⟨encode_LD_A_mnn nn, ?_⟩,
    fun n => ⟨rfl, ?_⟩⟩
  · beta_reduce
    rw [exec_ldFromHl]
    exact completes_loads hv (MicroOp.load_loads s.regs s.eng.ctx .hl) rfl
  · exact completes_loads hv (MicroOp.load_loads s.regs s.eng.ctx .bc) rfl
  · exact completes_loads hv (MicroOp.load_loads s.regs s.eng.ctx .de) rfl
  · exact completes_loads hv (MicroOp.load_loads s.regs s.eng.ctx .highC) rfl
  · have hload := MicroOp.load_loads s.regs (withNn nn s).eng.ctx .nn
    rw [address_nn_withNn] at hload
    exact completes_loads hv hload rfl
  · exact completes_loads hv (MicroOp.load_loads s.regs (withLsb n s).eng.ctx .highLsb) rfl

/-- Settles O3: each form is a store by its addressing mode, with the latches its immediate bytes have filled. -/
theorem storeToMemory : Obligations.StoreToMemory := by
  unfold Obligations.StoreToMemory
  intro s hv
  refine ⟨fun r => ⟨encode_ldToHl r, ?_⟩, fun n => ⟨rfl, ?_⟩, ⟨rfl, ?_⟩, ⟨rfl, ?_⟩, ⟨rfl, ?_⟩,
    fun nn => ⟨encode_LD_mnn_A nn, ?_⟩, fun n => ⟨rfl, ?_⟩⟩
  · beta_reduce
    rw [exec_ldToHl]
    exact refused_or_completesStoring hv (MicroOp.store_stores s.regs s.eng.ctx .hl (.reg r)) rfl
  · exact refused_or_completesStoring hv (MicroOp.store_stores s.regs (withTmp n s).eng.ctx .hl .tmp) rfl
  · exact refused_or_completesStoring hv (MicroOp.store_stores s.regs s.eng.ctx .bc (.reg .a)) rfl
  · exact refused_or_completesStoring hv (MicroOp.store_stores s.regs s.eng.ctx .de (.reg .a)) rfl
  · exact refused_or_completesStoring hv (MicroOp.store_stores s.regs s.eng.ctx .highC (.reg .a)) rfl
  · have hstore := MicroOp.store_stores s.regs (withNn nn s).eng.ctx .nn (.reg .a)
    rw [address_nn_withNn] at hstore
    exact refused_or_completesStoring hv hstore rfl
  · exact refused_or_completesStoring hv (MicroOp.store_stores s.regs (withLsb n s).eng.ctx .highLsb (.reg .a)) rfl

/-- Settles O4: the micro-op that accesses the old HL moves HL as well. -/
theorem loadStoreHlStep : Obligations.LoadStoreHlStep := by
  unfold Obligations.LoadStoreHlStep
  intro s hv
  refine ⟨rfl, rfl, rfl, rfl, completes_loads (y := .a) hv (MicroOp.loadHlInc_loads s.regs s.eng.ctx) rfl,
    completes_loads (y := .a) hv (MicroOp.loadHlDec_loads s.regs s.eng.ctx) rfl, ?_⟩
  have hinc := MicroOp.storeHlInc_stores s.regs s.eng.ctx
  have hdec := MicroOp.storeHlDec_stores s.regs s.eng.ctx
  split
  · next hsel => exact ⟨refused_stores hv hsel hinc rfl, refused_stores hv hsel hdec rfl⟩
  · next hsel => exact ⟨completesStoring_stores hv hsel hinc rfl, completesStoring_stores hv hsel hdec rfl⟩

end Sys2Proof.Machine
end

section
/-! The 16-bit loads and the stack (R431 to R436, R504): an instruction of several bus cycles taken one micro-op at a time, what two
stores or two reads in a row leave, and the five statements as uses of it. -/

namespace Sys2Proof.Machine

/-! ## The bytes of an instruction -/

theorem encode_ldPair (dd : Pair) (nn : Word) :
    encode (Instr.ldPair dd nn) = [0x01 ||| (pairCode dd <<< 4), lowByte nn, highByte nn] := by
  rw [← immLow_eq_lowByte]
  cases dd <;> rfl

theorem encode_LD_mnn_SP (nn : Word) : encode (.LD_mnn_SP nn) = [0x08, lowByte nn, highByte nn] :=
  congrArg (fun lo => [0x08, lo, highByte nn]) (immLow_eq_lowByte nn)

theorem encode_push (qq : QPair) : encode (Instr.push qq) = [0xC5 ||| (qpairCode qq <<< 4)] := by cases qq <;> rfl

theorem encode_pop (qq : QPair) : encode (Instr.pop qq) = [0xC1 ||| (qpairCode qq <<< 4)] := by cases qq <;> rfl

/-! ## What a micro-op does to the CPU's part of a state -/

theorem Regs.qpair_withSp (r : Regs) (qq : QPair) (v : Word) : ({ r with sp := v } : Regs).qpair qq = r.qpair qq := by
  cases qq <;> rfl

namespace MicroOp
variable (r : Regs) (x : Ctx)

theorem pairFromNn_computes (dd : Pair) : (pairFromNn dd).Computes r x (r.setPair dd x.nn) := fun _ _ _ => rfl

theorem qpairFromNn_computes (qq : QPair) : (qpairFromNn qq).Computes r x (r.setQPair qq x.nn) := fun _ _ _ => rfl

theorem spFromHl_computes : spFromHl.Computes r x { r with sp := r.hl } := fun _ _ _ => rfl

theorem hlFromSpE_computes : hlFromSpE.Computes r x
    { r.setHl (r.sp + signExtend8 x.e) with f := (addSpOffset r.sp x.e).2 } := fun _ _ _ => rfl

theorem addSpE_computes : addSpE.Computes r x
    { r with sp := r.sp + signExtend8 x.e, f := (addSpOffset r.sp x.e).2 } := fun _ _ _ => rfl

theorem storeSpLow_stores : storeSpLow.Stores r x x.nn (lowByte r.sp) r := fun s q k => memWrite_withCpu s r x q k _ _

theorem storeSpHigh_stores : storeSpHigh.Stores r x (x.nn + 1) (highByte r.sp) r := fun s q k => memWrite_withCpu s r x q k _ _

theorem pushHigh_stores (qq : QPair) :
    (pushHigh qq).Stores r x (r.sp - 1) (highByte (r.qpair qq)) { r with sp := r.sp - 1 } := fun s q k =>
  pushByte_withCpu s r x q k _

/-- The low byte goes below the high byte, which has moved SP already (R434). -/
theorem pushLow_stores (qq : QPair) : (pushLow qq).Stores { r with sp := r.sp - 1 } x (r.sp - 2) (lowByte (r.qpair qq))
    { r with sp := r.sp - 2 } := fun s q k => by
  have hsp : r.sp - 1 - 1 = r.sp - 2 := by bv_omega
  have h := pushByte_withCpu s { r with sp := r.sp - 1 } x q k (lowByte (({ r with sp := r.sp - 1 } : Regs).qpair qq))
  rwa [Regs.qpair_withSp, hsp] at h

end MicroOp

/-- The two immediate bytes of a word make that word (R324). -/
theorem withNn_nn (nn : Word) (s : State) : (withNn nn s).eng.ctx.nn = nn := Ctx.nn_latch_bytes _ nn

/-! ## Steady addresses -/

/-- Every address that is steady in `s` is steady in `d` too, and reads the same there. -/
def KeepsSteady (s d : State) : Prop := ∀ b, steady s b = true → steady d b = true ∧ read8 d b = read8 s b

theorem KeepsSteady.trans {s d e : State} (hd : KeepsSteady s d) (he : KeepsSteady d e) : KeepsSteady s e := fun b hb => by
  obtain ⟨hsd, hrd⟩ := hd b hb
  obtain ⟨hse, hre⟩ := he b hsd
  exact ⟨hse, hre.trans hrd⟩

theorem keepsSteady_tick (s : State) : KeepsSteady s (tick s) := fun _ hb => ⟨steady_tick hb, read8_tick hb⟩

theorem keepsSteady_memRead (s : State) (a : Word) : KeepsSteady s (memRead s a) := fun _ hb =>
  ⟨steady_memRead a hb, read8_memRead a hb⟩

section Outcomes
variable {o : Host.Outcome State Fault Refusal} {r : Regs} {u s d : State}

theorem Completes.of_keepsSteady (h : Completes o r u d) (hd : KeepsSteady s d) : Completes o r u s := by
  obtain ⟨t, ho, hr, hu, hf⟩ := h
  exact ⟨t, ho, hr, hu, fun b hb => (hf b (hd b hb).1).trans (hd b hb).2⟩

/-- What two stores leave can be said from the bus cycle before as well. -/
theorem CompletesStoringTwice.of_tick {a1 a2 : Word} {v1 v2 : Byte} {s2 : State}
    (h : CompletesStoringTwice o r u (tick s) a1 v1 s2 a2 v2) : CompletesStoringTwice o r u s a1 v1 s2 a2 v2 := by
  obtain ⟨t, ho, hr, hu, hsecond, hfirst, hf⟩ := h
  refine ⟨t, ho, hr, hu, hsecond, fun c hc hs hn => ?_, fun b hb h1 h2 => ?_⟩
  · exact hfirst c ((cellAt_tick s a1).trans hc) (steady_tick hs) hn
  · exact (hf b (steady_tick hb) ((reaches_tick s a1 b).trans h1) h2).trans (read8_tick hb)

end Outcomes

/-! ## A run, one micro-op at a time -/

section Runs
variable {s s' : State} {r r' r1 r2 : Regs} {x x' : Ctx} {q ops rest : List Micro} {j k : Nat} {op op1 op2 : MicroOp}
  {a1 a2 : Word} {v1 v2 : Byte}

/-- The next micro-op runs in the next bus cycle, and the run goes on from what it leaves. -/
theorem runFrom_step (hops : ops.drop k = does op :: rest)
    (hop : ∀ q j, micro op (withCpu (tick s) r x q j) = withCpu s' r' x' q j) :
    runFrom k ops (withCpu s r x q j) = runFrom (k + 1) ops (withCpu s' r' x' q j) := by
  have hrest : ops.drop (k + 1) = rest := by rw [← List.tail_drop, hops, List.tail_cons]
  rw [runFrom_withCpu, runFrom_withCpu, hops, hrest, runRest_does_withCpu, hop, bumpQi_withCpu]

/-- A run with an internal bus cycle first is the run of the rest, begun one bus cycle later. -/
theorem runFrom_pad (hops : ops.drop k = does .pad :: rest) :
    runFrom k ops (withCpu s r x q j) = runFrom (k + 1) ops (withCpu (tick s) r x q j) :=
  runFrom_step hops (MicroOp.pad_computes r x (tick s))

theorem completes_pad (hops : ops.drop k = does .pad :: rest) {u : State}
    (h : Completes (runFrom (k + 1) ops (withCpu (tick s) r x q j)) r' u (tick s)) :
    Completes (runFrom k ops (withCpu s r x q j)) r' u s := by
  rw [runFrom_pad hops]
  exact h.of_keepsSteady (keepsSteady_tick s)

/-- Two storing micro-ops and an idle bus cycle write in their first and second bus cycles (R124). -/
theorem runFrom_storesTwice (hop1 : op1.Stores r x a1 v1 r1) (hop2 : op2.Stores r1 x a2 v2 r2)
    (hops : ops.drop k = [does op1, does op2, does .pad]) : runFrom k ops (withCpu s r x q j) =
      finish (withCpu (tick (memWrite (tick (memWrite (tick s) a1 v1)) a2 v2)) r2 x ops (k + 3)) := by
  have hrest : ops.drop (k + 1) = [does op2, does .pad] := by rw [← List.tail_drop, hops, List.tail_cons]
  rw [runFrom_step hops (hop1 (tick s)), runFrom_stores hop2 hrest]

theorem vbkRefused_storesTwice (hv : s.vbkRefused = false) :
    (tick (memWrite (tick (memWrite (tick s) a1 v1)) a2 v2)).vbkRefused =
      (selectsVramBank1 s.params.cgb a1 v1 || selectsVramBank1 s.params.cgb a2 v2) := by
  rw [tick_vbkRefused, memWrite_vbkRefused, tick_vbkRefused, tick_params, memWrite_params, tick_params, memWrite_vbkRefused,
    tick_vbkRefused, tick_params, hv, Bool.false_or]

/-- Two stores are refused where either selects VRAM bank 1 (R131); otherwise both bytes are there, the first unless the second
write reaches it, and what neither reaches is as it was. -/
theorem refused_or_completesStoringTwice (hv : s.vbkRefused = false) (hop1 : op1.Stores r x a1 v1 r1)
    (hop2 : op2.Stores r1 x a2 v2 r2) (hops : ops.drop k = [does op1, does op2, does .pad]) :
    if selectsVramBank1 s.params.cgb a1 v1 || selectsVramBank1 s.params.cgb a2 v2 then
      runFrom k ops (withCpu s r x q j) = .refused .vramBank1
    else CompletesStoringTwice (runFrom k ops (withCpu s r x q j)) r2
      (tick (memWrite (tick (memWrite (tick s) a1 v1)) a2 v2)) s a1 v1 (tick (memWrite (tick s) a1 v1)) a2 v2 := by
  rw [runFrom_storesTwice hop1 hop2 hops]
  split
  · next hsel => exact finish_refused ((vbkRefused_storesTwice hv).trans hsel)
  · next hsel =>
    refine ⟨_, finish_next ((vbkRefused_storesTwice hv).trans (Bool.eq_false_iff.mpr hsel)), rfl,
      agrees_withCpu (length_le_of_drop hops), fun c hc hs => ?_, fun c hc hs hn => ?_, fun b hb hn1 hn2 => ?_⟩
    · exact (read8_tick_memWrite_same v2 hc hs).1
    · obtain ⟨hread, hsteady⟩ := read8_tick_memWrite_same v1 ((cellAt_tick s a1).trans hc) (steady_tick hs)
      exact (read8_tick_memWrite_other hsteady hn).trans hread
    · have hn1' : reaches (tick s) a1 b = false := (reaches_tick s a1 b).trans hn1
      calc read8 (tick (memWrite (tick (memWrite (tick s) a1 v1)) a2 v2)) b
          = read8 (tick (memWrite (tick s) a1 v1)) b :=
            read8_tick_memWrite_other (steady_tick_memWrite_other (steady_tick hb) hn1') hn2
        _ = read8 (tick s) b := read8_tick_memWrite_other (steady_tick hb) hn1'
        _ = read8 s b := read8_tick hb

/-- Two reads, each moving SP, fill the latches of POP, the low one first (R435). -/
theorem runFrom_pop (qq : QPair) : runFrom 0 (Microcode.pop qq) (withCpu s r x q j) =
    runFrom 2 (Microcode.pop qq) (withCpu (memRead (tick (memRead (tick s) r.sp)) (r.sp + 1)) { r with sp := r.sp + 2 }
      ((x.latch .lsb (read8 (tick s) r.sp)).latch .msb (read8 (tick (memRead (tick s) r.sp)) (r.sp + 1))) q j) := by
  have hsp : r.sp + 1 + 1 = r.sp + 2 := by bv_omega
  rw [runFrom_step (op := .popLsb) rfl fun q j => popLatch_withCpu (tick s) r x q j .lsb,
    runFrom_step (op := .popMsb) rfl fun q j => popLatch_withCpu _ _ _ q j .msb, hsp]

theorem keepsSteady_twoReads (s : State) (a1 a2 : Word) : KeepsSteady s (memRead (tick (memRead (tick s) a1)) a2) :=
  (((keepsSteady_tick s).trans (keepsSteady_memRead _ a1)).trans (keepsSteady_tick _)).trans (keepsSteady_memRead _ a2)

/-- POP puts the word of the two bytes into the pair (R435). -/
theorem completes_pop (qq : QPair) (hv : s.vbkRefused = false) :
    Completes (runFrom 0 (Microcode.pop qq) (withCpu s r x q j))
      (({ r with sp := r.sp + 2 } : Regs).setQPair qq
        (word (read8 (tick (memRead (tick s) r.sp)) (r.sp + 1)) (read8 (tick s) r.sp)))
      (tick (memRead (tick (memRead (tick s) r.sp)) (r.sp + 1))) s := by
  rw [runFrom_pop]
  have hv' : (memRead (tick (memRead (tick s) r.sp)) (r.sp + 1)).vbkRefused = false := by
    simpa only [memRead_vbkRefused, tick_vbkRefused] using hv
  refine Completes.of_keepsSteady ?_ (keepsSteady_twoReads s r.sp (r.sp + 1))
  exact completes_computes hv' (MicroOp.qpairFromNn_computes _ _ qq) rfl

end Runs

/-! ## The statements -/

/-- Settles O5: one micro-op, with the latches that the two immediate bytes have filled. -/
theorem ldPairImm : Obligations.LdPairImm := by
  unfold Obligations.LdPairImm
  refine fun dd nn s hv => ⟨encode_ldPair dd nn, ?_⟩
  have hload := MicroOp.pairFromNn_computes s.regs (withNn nn s).eng.ctx dd
  rw [withNn_nn] at hload
  rw [exec_ldPair]
  exact completes_computes hv hload rfl

/-- Settles O6: two stores, at the immediate word and one above it. -/
theorem storeSp : Obligations.StoreSp := by
  unfold Obligations.StoreSp
  refine fun nn s hv => ⟨encode_LD_mnn_SP nn, ?_⟩
  have hlow := MicroOp.storeSpLow_stores s.regs (withNn nn s).eng.ctx
  have hhigh := MicroOp.storeSpHigh_stores s.regs (withNn nn s).eng.ctx
  rw [withNn_nn] at hlow hhigh
  exact refused_or_completesStoringTwice hv hlow hhigh rfl

/-- Settles O7: one micro-op on registers after the internal bus cycles; both sums share the flags of `addSpOffset`. -/
theorem spOffsetForms : Obligations.SpOffsetForms := by
  unfold Obligations.SpOffsetForms
  intro e s hv
  have hhl := MicroOp.hlFromSpE_computes s.regs (withE e s).eng.ctx
  have hsp := MicroOp.addSpE_computes s.regs (withE e s).eng.ctx
  rw [show (withE e s).eng.ctx.e = e from rfl, add_signExtend8] at hhl hsp
  refine ⟨rfl, rfl, rfl, completes_pad rfl (completes_computes hv (MicroOp.spFromHl_computes s.regs s.eng.ctx) rfl),
    (addSpOffset s.regs.sp e).2, packFlags_low .., flagZ_packFlags .., flagN_packFlags .., ?_, ?_, ?_, ?_⟩
  · rw [addSpOffset, flagH_packFlags, decide_eq_true_iff, nibble]
  · rw [addSpOffset, flagC_packFlags, decide_eq_true_iff]
  · exact completes_pad rfl (completes_computes hv hhl rfl)
  · exact completes_pad rfl (completes_pad rfl (completes_computes hv hsp rfl))

/-- Settles O8: two stores below SP after an internal bus cycle. -/
theorem pushPair : Obligations.PushPair := by
  unfold Obligations.PushPair
  refine fun qq s hv => ⟨encode_push qq, ?_⟩
  have hrun : exec (Instr.push qq) s = runFrom 1 (Microcode.push qq) (withCpu (tick s) s.regs s.eng.ctx s.eng.queue s.eng.qi) :=
    (exec_push qq s).trans (runFrom_pad rfl)
  have hstores := refused_or_completesStoringTwice (s := tick s) (q := s.eng.queue) (j := s.eng.qi) hv
    (MicroOp.pushHigh_stores s.regs s.eng.ctx qq) (MicroOp.pushLow_stores s.regs s.eng.ctx qq)
    (rfl : (Microcode.push qq).drop 1 = _)
  rw [tick_params, ← hrun] at hstores
  split at hstores
  · next hsel => exact (if_pos hsel).mpr hstores
  · next hsel => exact (if_neg hsel).mpr hstores.of_tick

/-- Settles O9: the word from the two latches, taken apart again into the pair's halves. -/
theorem popPair : Obligations.PopPair := by
  unfold Obligations.PopPair
  refine fun qq s hv => ⟨encode_pop qq, ?_⟩
  have hpop := completes_pop (r := s.regs) (x := s.eng.ctx) (q := s.eng.queue) (j := s.eng.qi) qq hv
  rw [← eq_withCpu, ← exec_pop] at hpop
  cases qq <;> simpa only [Regs.setQPair, maskF, highByte_word, lowByte_word] using hpop

end Sys2Proof.Machine
end

section
/-! 8-bit arithmetic and logic (R451 to R490): the functions as exact arithmetic with their flags, what the micro-ops that use them do
to a state in normal form, and the seven statements as uses of both. -/

namespace Sys2Proof.Machine

/-! ## The bytes of an instruction -/

theorem encode_aluReg (op : AluOp) (r : Reg8) : encode (Instr.aluReg op r) = [0x80 ||| (aluCode op <<< 3) ||| regCode r] := by
  cases op <;> cases r <;> rfl

theorem encode_aluHl (op : AluOp) : encode (Instr.aluHl op) = [0x86 ||| (aluCode op <<< 3)] := by cases op <;> rfl

theorem encode_aluImm (op : AluOp) (n : Byte) : encode (Instr.aluImm op n) = [0xC6 ||| (aluCode op <<< 3), n] := by
  cases op <;> rfl

theorem encode_incReg (r : Reg8) : encode (Instr.incReg r) = [0x04 ||| (regCode r <<< 3)] := by cases r <;> rfl

theorem encode_decReg (r : Reg8) : encode (Instr.decReg r) = [0x05 ||| (regCode r <<< 3)] := by cases r <;> rfl

/-! ## The functions and their flags -/

theorem flags_packFlags (z n h c : Bool) : flagZ (packFlags z n h c) = z ∧ flagN (packFlags z n h c) = n ∧
    flagH (packFlags z n h c) = h ∧ flagC (packFlags z n h c) = c :=
  ⟨flagZ_packFlags .., flagN_packFlags .., flagH_packFlags .., flagC_packFlags ..⟩

theorem toNat_setWidth_ofBool (c : Bool) : ((BitVec.ofBool c).setWidth 8 : Byte).toNat = c.toNat := by cases c <;> rfl

theorem addWithCarry_toNat (a b : Byte) (c : Bool) :
    (addWithCarry a b c).1.toNat = (a.toNat + b.toNat + c.toNat) % 256 := by
  simp only [addWithCarry, BitVec.toNat_add, toNat_setWidth_ofBool]
  omega

/-- The two additions (R451, R452). -/
theorem addWithCarry_spec (a b : Byte) (c : Bool) :
    (addWithCarry a b c).1.toNat = (a.toNat + b.toNat + c.toNat) % 256 ∧
    flagZ (addWithCarry a b c).2 = ((addWithCarry a b c).1 == 0) ∧ flagN (addWithCarry a b c).2 = false ∧
    (flagH (addWithCarry a b c).2 = true ↔ a.toNat % 16 + b.toNat % 16 + c.toNat > 0xF) ∧
    (flagC (addWithCarry a b c).2 = true ↔ a.toNat + b.toNat + c.toNat > 0xFF) := by
  refine ⟨addWithCarry_toNat a b c, flagZ_packFlags .., flagN_packFlags .., ?_, ?_⟩
  · rw [addWithCarry, flagH_packFlags, decide_eq_true_iff, nibble, nibble]
  · rw [addWithCarry, flagC_packFlags, decide_eq_true_iff]

theorem subWithBorrow_toNat (a b : Byte) (c : Bool) :
    ((subWithBorrow a b c).1.toNat : Int) = (a.toNat - b.toNat - c.toNat : Int) % 256 := by
  have hc : c.toNat ≤ 1 := Bool.toNat_le c
  simp only [subWithBorrow, BitVec.toNat_sub, toNat_setWidth_ofBool]
  omega

/-- The two subtractions (R453, R454). -/
theorem subWithBorrow_spec (a b : Byte) (c : Bool) :
    ((subWithBorrow a b c).1.toNat : Int) = (a.toNat - b.toNat - c.toNat : Int) % 256 ∧
    flagZ (subWithBorrow a b c).2 = ((subWithBorrow a b c).1 == 0) ∧ flagN (subWithBorrow a b c).2 = true ∧
    (flagH (subWithBorrow a b c).2 = true ↔ a.toNat % 16 < b.toNat % 16 + c.toNat) ∧
    (flagC (subWithBorrow a b c).2 = true ↔ a.toNat < b.toNat + c.toNat) := by
  refine ⟨subWithBorrow_toNat a b c, flagZ_packFlags .., flagN_packFlags .., ?_, ?_⟩
  · rw [subWithBorrow, flagH_packFlags, decide_eq_true_iff, nibble, nibble]
  · rw [subWithBorrow, flagC_packFlags, decide_eq_true_iff]

/-- Without a borrow in, the difference is zero exactly where the operands are equal (R458). -/
theorem subWithBorrow_eq_zero (a b : Byte) : ((subWithBorrow a b false).1 == 0) = (a == b) := by
  have hdiff : (subWithBorrow a b false).1 = a - b := BitVec.sub_zero (a - b)
  rw [hdiff, Bool.eq_iff_iff, beq_iff_eq, beq_iff_eq]
  exact sub_eq_zero

/-- INC (R483). -/
theorem inc8_flags (v f : Byte) : (inc8 v f).2 &&& 0x0F = 0 ∧ flagZ (inc8 v f).2 = (v + 1 == 0) ∧ flagN (inc8 v f).2 = false ∧
    (flagH (inc8 v f).2 = true ↔ v.toNat % 16 = 15) ∧ flagC (inc8 v f).2 = flagC f := by
  refine ⟨packFlags_low .., flagZ_packFlags .., flagN_packFlags .., ?_, flagC_packFlags ..⟩
  rw [inc8, flagH_packFlags, beq_iff_eq, nibble]

/-- DEC (R484). -/
theorem dec8_flags (v f : Byte) : (dec8 v f).2 &&& 0x0F = 0 ∧ flagZ (dec8 v f).2 = (v - 1 == 0) ∧ flagN (dec8 v f).2 = true ∧
    (flagH (dec8 v f).2 = true ↔ v.toNat % 16 = 0) ∧ flagC (dec8 v f).2 = flagC f := by
  refine ⟨packFlags_low .., flagZ_packFlags .., flagN_packFlags .., ?_, flagC_packFlags ..⟩
  rw [dec8, flagH_packFlags, beq_iff_eq, nibble]

/-! ## DAA (R487) -/

/-- DAA corrects the high digit. -/
def daaHigh (a f : Byte) : Bool := flagC f || (!flagN f && decide ((a.toNat : Int) > 0x99))

/-- DAA corrects the low digit. -/
def daaLow (a f : Byte) : Bool := flagH f || (!flagN f && decide ((a.toNat : Int) % 16 > 9))

/-- The correction of both digits. -/
def daaFix (a f : Byte) : Int := (if daaHigh a f then 0x60 else 0) + (if daaLow a f then 0x06 else 0)

/-- The correction of the high digit comes first and leaves the low digit alone, so both can be decided on the operand. -/
theorem daa8_fst (a f : Byte) :
    (daa8 a f).1 = BitVec.ofInt 8 (if flagN f then (a.toNat : Int) - daaFix a f else a.toNat + daaFix a f) := by
  have hlow (hi : Bool) : (if hi = true then (a.toNat : Int) + 0x60 else a.toNat) % 16 = (a.toNat : Int) % 16 := by
    split <;> omega
  unfold daa8 daaFix daaHigh daaLow
  refine congrArg (BitVec.ofInt 8) ?_
  cases flagN f with
  | true =>
    simp only [Bool.not_true, Bool.false_and, Bool.or_false, Bool.cond_eq_ite, if_true]
    split_ifs <;> omega
  | false =>
    simp only [Bool.not_false, Bool.true_and, Bool.cond_eq_ite, hlow, Bool.false_eq_true, if_false]
    split_ifs <;> omega

theorem daa8_flags (a f : Byte) : (daa8 a f).2 &&& 0x0F = 0 ∧ flagZ (daa8 a f).2 = ((daa8 a f).1 == 0) ∧
    flagN (daa8 a f).2 = flagN f ∧ flagH (daa8 a f).2 = false ∧ flagC (daa8 a f).2 = daaHigh a f :=
  ⟨packFlags_low .., flags_packFlags ..⟩

/-- The BCD code of a two-digit number. -/
def bcd (k : Nat) : Byte := BitVec.ofNat 8 (k / 10 * 16 + k % 10)

theorem bcd_toNat {k : Nat} (h : k < 100) : (bcd k).toNat = k / 10 * 16 + k % 10 := by
  rw [bcd, BitVec.toNat_ofNat]
  omega

section BcdSum
variable {x y : Nat}

theorem addWithCarry_bcd_toNat (hx : x < 100) (hy : y < 100) :
    (addWithCarry (bcd x) (bcd y) false).1.toNat = (x / 10 * 16 + x % 10 + (y / 10 * 16 + y % 10)) % 256 := by
  rw [addWithCarry_toNat, bcd_toNat hx, bcd_toNat hy]
  rfl

/-- After a BCD addition DAA corrects the low digit exactly where the units carry. -/
theorem daaLow_bcdSum (hx : x < 100) (hy : y < 100) :
    daaLow (addWithCarry (bcd x) (bcd y) false).1 (addWithCarry (bcd x) (bcd y) false).2 = true ↔ 10 ≤ x % 10 + y % 10 := by
  obtain ⟨-, -, hn, hh, -⟩ := addWithCarry_spec (bcd x) (bcd y) false
  rw [daaLow, Bool.or_eq_true, hh, hn, Bool.not_false, Bool.true_and, decide_eq_true_iff, addWithCarry_bcd_toNat hx hy,
    bcd_toNat hx, bcd_toNat hy, Bool.toNat_false]
  omega

/-- After a BCD addition DAA corrects the high digit exactly where the tens carry. -/
theorem daaHigh_bcdSum (hx : x < 100) (hy : y < 100) :
    daaHigh (addWithCarry (bcd x) (bcd y) false).1 (addWithCarry (bcd x) (bcd y) false).2 = true ↔ 100 ≤ x + y := by
  obtain ⟨-, -, hn, -, hc⟩ := addWithCarry_spec (bcd x) (bcd y) false
  rw [daaHigh, Bool.or_eq_true, hc, hn, Bool.not_false, Bool.true_and, decide_eq_true_iff, addWithCarry_bcd_toNat hx hy,
    bcd_toNat hx, bcd_toNat hy, Bool.toNat_false]
  have hwrap : (x / 10 * 16 + x % 10 + (y / 10 * 16 + y % 10)) / 256 = 0 ∨
      (x / 10 * 16 + x % 10 + (y / 10 * 16 + y % 10)) / 256 = 1 := by omega
  omega

/-- The corrected sum of the codes is the code of the sum. -/
theorem daa8_bcdSum (hx : x < 100) (hy : y < 100) :
    (daa8 (addWithCarry (bcd x) (bcd y) false).1 (addWithCarry (bcd x) (bcd y) false).2).1 = bcd ((x + y) % 100) := by
  obtain ⟨-, -, hn, -, -⟩ := addWithCarry_spec (bcd x) (bcd y) false
  refine BitVec.eq_of_toNat_eq ?_
  rw [daa8_fst, hn, if_neg Bool.false_ne_true, daaFix, BitVec.toNat_ofInt, addWithCarry_bcd_toNat hx hy, bcd_toNat (by omega)]
  simp only [daaLow_bcdSum hx hy, daaHigh_bcdSum hx hy]
  split_ifs <;> omega

end BcdSum

/-! ## What a micro-op does to the CPU's part of a state -/

namespace MicroOp
variable (r : Regs) (x : Ctx)

theorem aluReg_computes (op : AluOp) (y : Reg8) : (aluReg op y).Computes r x
    { r with a := (alu op r.a (r.get y) r.f).1, f := (alu op r.a (r.get y) r.f).2 } := fun _ _ _ => rfl

theorem aluTmp_computes (op : AluOp) : (aluTmp op).Computes r x
    { r with a := (alu op r.a x.tmp r.f).1, f := (alu op r.a x.tmp r.f).2 } := fun _ _ _ => rfl

theorem incReg_computes (y : Reg8) : (incReg y).Computes r x { r.set y (r.get y + 1) with f := (inc8 (r.get y) r.f).2 } :=
  fun _ _ _ => rfl

theorem decReg_computes (y : Reg8) : (decReg y).Computes r x { r.set y (r.get y - 1) with f := (dec8 (r.get y) r.f).2 } :=
  fun _ _ _ => rfl

theorem daa_computes : daa.Computes r x { r with a := (daa8 r.a r.f).1, f := (daa8 r.a r.f).2 } := fun _ _ _ => rfl

theorem cpl_computes : cpl.Computes r x { r with a := ~~~r.a, f := (cpl8 r.a r.f).2 } := fun _ _ _ => rfl

theorem scf_computes : scf.Computes r x { r with f := scfFlags r.f } := fun _ _ _ => rfl

theorem ccf_computes : ccf.Computes r x { r with f := ccfFlags r.f } := fun _ _ _ => rfl

theorem incMem_stores : incMem.Stores r x r.hl (x.tmp + 1) { r with f := (inc8 x.tmp r.f).2 } := fun s q k =>
  storeHlF_withCpu s r x q k _

theorem decMem_stores : decMem.Stores r x r.hl (x.tmp - 1) { r with f := (dec8 x.tmp r.f).2 } := fun s q k =>
  storeHlF_withCpu s r x q k _

end MicroOp

/-! ## A read, and then work on the byte read -/

/-- What a store leaves can be said from before a read in the bus cycle before as well. -/
theorem CompletesStoring.of_memRead_tick {o : Host.Outcome State Fault Refusal} {r : Regs} {u s : State} {a b : Word} {v : Byte}
    (h : CompletesStoring o r u (memRead (tick s) b) a v) : CompletesStoring o r u s a v := by
  obtain ⟨t, ho, hr, hu, hcell, hf⟩ := h
  have hkeeps : KeepsSteady s (memRead (tick s) b) := (keepsSteady_tick s).trans (keepsSteady_memRead _ b)
  refine ⟨t, ho, hr, hu, fun c hc hs => hcell c ?_ (hkeeps a hs).1, fun d hd hn => ?_⟩
  · rw [cellAt_memRead, cellAt_tick, hc]
  · refine (hf d (hkeeps d hd).1 ?_).trans (hkeeps d hd).2
    rw [reaches_memRead, reaches_tick, hn]

section Runs
variable {s : State} {r r1 r2 : Regs} {x : Ctx} {q ops rest : List Micro} {j k : Nat} {op1 op2 : MicroOp} {a1 a2 : Word} {v : Byte}

theorem drop_succ_of_drop {m : Micro} (h : ops.drop k = m :: rest) : ops.drop (k + 1) = rest := by
  rw [← List.tail_drop, h, List.tail_cons]

theorem runFrom_loads (hop1 : op1.Loads r x a1 r1) (hops : ops.drop k = does op1 :: rest) :
    runFrom k ops (withCpu s r x q j) =
      runFrom (k + 1) ops (withCpu (memRead (tick s) a1) r1 { x with tmp := read8 (tick s) a1 } q j) :=
  runFrom_step hops (hop1 (tick s))

/-- A loading micro-op and one on registers: the byte is read in the first bus cycle and used in the second (R467). -/
theorem completes_loads_computes (hv : s.vbkRefused = false) (hop1 : op1.Loads r x a1 r1)
    (hop2 : op2.Computes r1 { x with tmp := read8 (tick s) a1 } r2) (hops : ops.drop k = [does op1, does op2]) :
    Completes (runFrom k ops (withCpu s r x q j)) r2 (tick (memRead (tick s) a1)) s := by
  rw [runFrom_loads hop1 hops]
  exact (completes_computes (s := memRead (tick s) a1) hv hop2 (drop_succ_of_drop hops)).of_keepsSteady
    ((keepsSteady_tick s).trans (keepsSteady_memRead _ a1))

section LoadsStores
variable (hv : s.vbkRefused = false) (hop1 : op1.Loads r x a1 r1)
  (hop2 : op2.Stores r1 { x with tmp := read8 (tick s) a1 } a2 v r2) (hops : ops.drop k = [does op1, does op2, does .pad])
include hv hop1 hop2 hops

/-- A byte read and then stored at an address and with a value that select VRAM bank 1 is refused (R131). -/
theorem refused_loads_stores (hsel : selectsVramBank1 s.params.cgb a2 v = true) :
    runFrom k ops (withCpu s r x q j) = .refused .vramBank1 := by
  rw [runFrom_loads hop1 hops]
  exact refused_stores (s := memRead (tick s) a1) hv hsel hop2 (drop_succ_of_drop hops)

/-- A loading micro-op, a storing one and an idle bus cycle read in the first bus cycle and write in the second (R485). -/
theorem completesStoring_loads_stores (hsel : ¬ selectsVramBank1 s.params.cgb a2 v = true) :
    CompletesStoring (runFrom k ops (withCpu s r x q j)) r2 (tick (memWrite (tick (memRead (tick s) a1)) a2 v)) s a2 v := by
  rw [runFrom_loads hop1 hops]
  exact (completesStoring_stores (s := memRead (tick s) a1) hv hsel hop2 (drop_succ_of_drop hops)).of_memRead_tick

end LoadsStores

end Runs

/-! ## The statements -/

/-- Settles O10: the additions and the subtractions share a function each; CP is SUB with A left as it was. -/
theorem aluFunctions : Obligations.AluFunctions := by
  unfold Obligations.AluFunctions
  refine fun op a b f => ⟨alu_low op a b f, ?_⟩
  cases op with
  | add => exact addWithCarry_spec a b false
  | adc => exact addWithCarry_spec a b (flagC f)
  | sub =>
    obtain ⟨hr, hflags⟩ := subWithBorrow_spec a b false
    exact ⟨hr.trans (by simp), hflags⟩
  | sbc =>
    obtain ⟨hr, hz, hn, hh, hc⟩ := subWithBorrow_spec a b (flagC f)
    exact ⟨hr, hz, hn, hh.trans (by omega), hc.trans (by omega)⟩
  | and => exact ⟨rfl, flags_packFlags ..⟩
  | xor => exact ⟨rfl, flags_packFlags ..⟩
  | or => exact ⟨rfl, flags_packFlags ..⟩
  | cp =>
    obtain ⟨-, hz, hflags⟩ := subWithBorrow_spec a b false
    exact ⟨rfl, hz.trans (subWithBorrow_eq_zero a b), hflags⟩

/-- Settles O11: one micro-op on registers. -/
theorem aluReg : Obligations.AluReg := by
  unfold Obligations.AluReg
  refine fun op y s hv => ⟨encode_aluReg op y, ?_⟩
  rw [exec_aluReg]
  exact completes_computes hv (MicroOp.aluReg_computes s.regs s.eng.ctx op y) rfl

/-- Settles O12: the same micro-op on `ctx.tmp`, which the read at HL or the immediate byte has filled. -/
theorem aluMemoryAndImmediate : Obligations.AluMemoryAndImmediate := by
  unfold Obligations.AluMemoryAndImmediate
  refine fun op s hv => ⟨encode_aluHl op, ?_, fun n => ⟨encode_aluImm op n, ?_⟩⟩
  · rw [exec_aluHl]
    exact completes_loads_computes hv (MicroOp.load_loads s.regs s.eng.ctx .hl) (MicroOp.aluTmp_computes _ _ op) rfl
  · rw [exec_aluImm]
    exact completes_computes hv (MicroOp.aluTmp_computes s.regs (withTmp n s).eng.ctx op) rfl

/-- Settles O13: one micro-op on registers, with the flags of `inc8` and `dec8`. -/
theorem incDecReg : Obligations.IncDecReg := by
  unfold Obligations.IncDecReg
  refine fun y s hv => ⟨encode_incReg y, encode_decReg y, ?_, ?_⟩
  · obtain ⟨hlow, hz, hn, hh, hc⟩ := inc8_flags (s.regs.get y) s.regs.f
    rw [exec_incReg]
    exact ⟨_, hlow, hz, hn, hh, hc, completes_computes hv (MicroOp.incReg_computes s.regs s.eng.ctx y) rfl⟩
  · obtain ⟨hlow, hz, hn, hh, hc⟩ := dec8_flags (s.regs.get y) s.regs.f
    rw [exec_decReg]
    exact ⟨_, hlow, hz, hn, hh, hc, completes_computes hv (MicroOp.decReg_computes s.regs s.eng.ctx y) rfl⟩

/-- Settles O14: a read into `ctx.tmp`, then a store of the stepped byte with the flags of `inc8` and `dec8`. -/
theorem incDecMem : Obligations.IncDecMem := by
  unfold Obligations.IncDecMem
  intro s hv
  have hload := MicroOp.load_loads s.regs s.eng.ctx .hl
  have hinc := MicroOp.incMem_stores s.regs { s.eng.ctx with tmp := read8 (tick s) s.regs.hl }
  have hdec := MicroOp.decMem_stores s.regs { s.eng.ctx with tmp := read8 (tick s) s.regs.hl }
  refine ⟨rfl, rfl, ?_, ?_⟩
  · split
    · next hsel => exact refused_loads_stores hv hload hinc rfl hsel
    · next hsel =>
      obtain ⟨hlow, hz, hn, hh, hc⟩ := inc8_flags (read8 (tick s) s.regs.hl) s.regs.f
      exact ⟨_, hlow, hz, hn, hh, hc, completesStoring_loads_stores hv hload hinc rfl hsel⟩
  · split
    · next hsel => exact refused_loads_stores hv hload hdec rfl hsel
    · next hsel =>
      obtain ⟨hlow, hz, hn, hh, hc⟩ := dec8_flags (read8 (tick s) s.regs.hl) s.regs.f
      exact ⟨_, hlow, hz, hn, hh, hc, completesStoring_loads_stores hv hload hdec rfl hsel⟩

/-- Settles O15: one micro-op on registers each; DAA by its correction of both digits at once. -/
theorem accumulatorOps : Obligations.AccumulatorOps := by
  unfold Obligations.AccumulatorOps
  intro s hv
  have hdaa := MicroOp.daa_computes s.regs s.eng.ctx
  obtain ⟨hlow, hz, hn, hh, hc⟩ := daa8_flags s.regs.a s.regs.f
  rw [daa8_fst] at hz hdaa
  refine ⟨rfl, rfl, rfl, rfl, ⟨_, hlow, hz, hn, hh, hc, completes_computes hv hdaa rfl⟩, ?_, ?_, ?_⟩
  · obtain ⟨hz, hn, hh, hc⟩ := flags_packFlags (flagZ s.regs.f) true true (flagC s.regs.f)
    exact ⟨_, packFlags_low .., hz, hn, hh, hc, completes_computes hv (MicroOp.cpl_computes s.regs s.eng.ctx) rfl⟩
  · obtain ⟨hz, hn, hh, hc⟩ := flags_packFlags (flagZ s.regs.f) false false true
    exact ⟨_, packFlags_low .., hz, hn, hh, hc, completes_computes hv (MicroOp.scf_computes s.regs s.eng.ctx) rfl⟩
  · obtain ⟨hz, hn, hh, hc⟩ := flags_packFlags (flagZ s.regs.f) false false (!flagC s.regs.f)
    exact ⟨_, packFlags_low .., hz, hn, hh, hc, completes_computes hv (MicroOp.ccf_computes s.regs s.eng.ctx) rfl⟩

/-- Settles O16: DAA corrects a digit exactly where the decimal digits carry, and its carry is the correction of the tens. -/
theorem daaAfterBcdAddition : Obligations.DaaAfterBcdAddition := by
  unfold Obligations.DaaAfterBcdAddition
  intro x y hx hy f
  obtain ⟨-, -, -, -, hc⟩ := daa8_flags (alu .add (bcd x) (bcd y) f).1 (alu .add (bcd x) (bcd y) f).2
  exact ⟨daa8_bcdSum hx hy, (Bool.eq_iff_iff.mp hc).trans (daaHigh_bcdSum hx hy)⟩

end Sys2Proof.Machine
end

section
/-! 16-bit arithmetic (R501 to R503): the flags of the 16-bit sum, what the three micro-ops do to a state in normal form, and the
statement as a use of both. -/

namespace Sys2Proof.Machine

/-! ## The bytes of an instruction -/

theorem encode_addHl (dd : Pair) : encode (Instr.addHl dd) = [0x09 ||| (pairCode dd <<< 4)] := by cases dd <;> rfl

theorem encode_incPair (dd : Pair) : encode (Instr.incPair dd) = [0x03 ||| (pairCode dd <<< 4)] := by cases dd <;> rfl

theorem encode_decPair (dd : Pair) : encode (Instr.decPair dd) = [0x0B ||| (pairCode dd <<< 4)] := by cases dd <;> rfl

/-! ## The flags of the sum -/

/-- ADD HL,dd (R501): Z is kept, H and C are the carries out of bits 11 and 15. -/
theorem addHl16_flags (hl v : Word) (f : Byte) : (addHl16 hl v f).2 &&& 0x0F = 0 ∧ flagZ (addHl16 hl v f).2 = flagZ f ∧
    flagN (addHl16 hl v f).2 = false ∧
    (flagH (addHl16 hl v f).2 = true ↔ hl.toNat % 0x1000 + v.toNat % 0x1000 > 0xFFF) ∧
    (flagC (addHl16 hl v f).2 = true ↔ hl.toNat + v.toNat > 0xFFFF) := by
  refine ⟨packFlags_low .., flagZ_packFlags .., flagN_packFlags .., ?_, ?_⟩
  · rw [addHl16, flagH_packFlags, decide_eq_true_iff]
  · rw [addHl16, flagC_packFlags, decide_eq_true_iff]

/-! ## What a micro-op does to the CPU's part of a state -/

namespace MicroOp
variable (r : Regs) (x : Ctx) (dd : Pair)

theorem addHl_computes : (addHl dd).Computes r x
    { r.setPair .hl (r.hl + r.pair dd) with f := (addHl16 r.hl (r.pair dd) r.f).2 } := fun _ _ _ => rfl

theorem incPair_computes : (incPair dd).Computes r x (r.setPair dd (r.pair dd + 1)) := fun _ _ _ => rfl

theorem decPair_computes : (decPair dd).Computes r x (r.setPair dd (r.pair dd - 1)) := fun _ _ _ => rfl

end MicroOp

/-- An internal bus cycle and then a micro-op on registers: the registers change in the second bus cycle (R501). -/
theorem completes_pad_computes {s : State} {r r' : Regs} {x : Ctx} {q ops : List Micro} {j k : Nat} {op : MicroOp}
    (hv : s.vbkRefused = false) (hop : op.Computes r x r') (hops : ops.drop k = [does .pad, does op]) :
    Completes (runFrom k ops (withCpu s r x q j)) r' (tick (tick s)) s :=
  completes_pad hops (completes_computes (s := tick s) hv hop (drop_succ_of_drop hops))

/-! ## The statement -/

/-- Settles O17: one micro-op on registers after an internal bus cycle; the flags of the sum are those of `addHl16`. -/
theorem pairArithmetic : Obligations.PairArithmetic := by
  unfold Obligations.PairArithmetic
  refine fun dd s hv => ⟨encode_addHl dd, encode_incPair dd, encode_decPair dd, ?_, ?_, ?_⟩
  · obtain ⟨hlow, hz, hn, hh, hc⟩ := addHl16_flags s.regs.hl (s.regs.pair dd) s.regs.f
    rw [exec_addHl]
    exact ⟨_, hlow, hz, hn, hh, hc, completes_pad_computes hv (MicroOp.addHl_computes s.regs s.eng.ctx dd) rfl⟩
  · rw [exec_incPair]
    exact completes_pad_computes hv (MicroOp.incPair_computes s.regs s.eng.ctx dd) rfl
  · rw [exec_decPair]
    exact completes_pad_computes hv (MicroOp.decPair_computes s.regs s.eng.ctx dd) rfl

end Sys2Proof.Machine
end

section
/-! Rotates, shifts and bits (R511 to R544): the shifts as exact arithmetic, the bits of a byte with one bit changed, what the micro-ops
that use them do to a state in normal form, and the five statements as uses of both. -/

namespace Sys2Proof.Machine

/-! ## The bytes of an instruction -/

theorem encode_rotReg (op : RotOp) (r : Reg8) : encode (Instr.rotReg op r) = [(0xCB : Byte), (rotCode op <<< 3) ||| regCode r] := by
  cases op <;> cases r <;> rfl

theorem encode_rotHl (op : RotOp) : encode (Instr.rotHl op) = [(0xCB : Byte), (rotCode op <<< 3) ||| 6] := by cases op <;> rfl

theorem encode_bitReg (b : Fin 8) (r : Reg8) :
    encode (Instr.bitReg b r) = [(0xCB : Byte), 0x40 ||| (bitCode b <<< 3) ||| regCode r] := by fin_cases b <;> cases r <;> rfl

theorem encode_resReg (b : Fin 8) (r : Reg8) :
    encode (Instr.resReg b r) = [(0xCB : Byte), 0x80 ||| (bitCode b <<< 3) ||| regCode r] := by fin_cases b <;> cases r <;> rfl

theorem encode_setReg (b : Fin 8) (r : Reg8) :
    encode (Instr.setReg b r) = [(0xCB : Byte), 0xC0 ||| (bitCode b <<< 3) ||| regCode r] := by fin_cases b <;> cases r <;> rfl

theorem encode_bitHl (b : Fin 8) : encode (Instr.bitHl b) = [(0xCB : Byte), 0x46 ||| (bitCode b <<< 3)] := by fin_cases b <;> rfl

theorem encode_resHl (b : Fin 8) : encode (Instr.resHl b) = [(0xCB : Byte), 0x86 ||| (bitCode b <<< 3)] := by fin_cases b <;> rfl

theorem encode_setHl (b : Fin 8) : encode (Instr.setHl b) = [(0xCB : Byte), 0xC6 ||| (bitCode b <<< 3)] := by fin_cases b <;> rfl

/-! ## The shifts as arithmetic -/

/-- The result of a shift as arithmetic on the value of the byte and the carry-in (R515 to R522). -/
def shiftedNat (op : RotOp) (n c : Nat) : Nat :=
  match op with
  | .rlc => (2 * n + n / 128) % 256
  | .rrc => n / 2 + n % 2 * 128
  | .rl => (2 * n + c) % 256
  | .rr => n / 2 + c * 128
  | .sla => 2 * n % 256
  | .sra => n / 2 + n / 128 * 128
  | .swap => n % 16 * 16 + n / 16
  | .srl => n / 2

/-- A byte shifted left by `k` leaves its low `k` bits free, so a value that fits there is added by OR. -/
theorem toNat_shiftLeft_or {k : Nat} (hk : k ≤ 8) (a : Byte) {b : Byte} (hb : b.toNat < 2 ^ k) :
    (a <<< k ||| b).toNat = a.toNat * 2 ^ k % 256 + b.toNat := by
  have hpow : 256 = 2 ^ (8 - k) * 2 ^ k := by rw [← Nat.pow_add, Nat.sub_add_cancel hk]
  have hshl : (a <<< k).toNat = a.toNat % 2 ^ (8 - k) * 2 ^ k := by
    rw [BitVec.toNat_shiftLeft, Nat.shiftLeft_eq, ← Nat.mul_mod_mul_right, ← hpow]
  rw [BitVec.toNat_or, hshl, hpow, Nat.mul_mod_mul_right, ← Nat.shiftLeft_eq, Nat.shiftLeft_add_eq_or_of_lt hb]

/-- The sign bit that SRA keeps is the carry out of bit 7, put back there. -/
theorem and_signBit_eq_shiftLeft (v : Byte) : v &&& (0x80 : Byte) = (v >>> 7) <<< 7 := by revert v; decide

/-- The functions RLC to SRL (R515 to R522). -/
theorem shift_toNat (op : RotOp) (v : Byte) (c : Bool) : (shift op v c).1.toNat = shiftedNat op v.toNat c.toNat := by
  have hv : v.toNat < 256 := v.isLt
  have hc : c.toNat ≤ 1 := Bool.toNat_le c
  have hcin : ((BitVec.ofBool c).setWidth 8 : Byte).toNat = c.toNat := toNat_setWidth_ofBool c
  have hshr (j : Nat) : (v >>> j).toNat = v.toNat / 2 ^ j := by rw [BitVec.toNat_ushiftRight, Nat.shiftRight_eq_div_pow]
  cases op with
  | rlc =>
    rw [shift, toNat_shiftLeft_or (by decide) v (by rw [hshr]; omega), hshr, shiftedNat]
    omega
  | rrc =>
    rw [shift, BitVec.or_comm, toNat_shiftLeft_or (by decide) v (by rw [hshr]; omega), hshr, shiftedNat]
    omega
  | rl =>
    rw [shift, toNat_shiftLeft_or (by decide) v (by rw [hcin]; omega), hcin, shiftedNat]
    omega
  | rr =>
    rw [shift, BitVec.or_comm, toNat_shiftLeft_or (by decide) _ (by rw [hshr]; omega), hcin, hshr, shiftedNat]
    omega
  | sla =>
    rw [shift, BitVec.toNat_shiftLeft, Nat.shiftLeft_eq, shiftedNat]
    omega
  | sra =>
    rw [shift, and_signBit_eq_shiftLeft, BitVec.or_comm, toNat_shiftLeft_or (by decide) _ (by rw [hshr]; omega), hshr, hshr,
      shiftedNat]
    omega
  | swap =>
    rw [shift, toNat_shiftLeft_or (by decide) v (by rw [hshr]; omega), hshr, shiftedNat]
    omega
  | srl => exact hshr 1

theorem shift_fst (op : RotOp) (v : Byte) (c : Bool) : (shift op v c).1 = BitVec.ofNat 8 (shiftedNat op v.toNat c.toNat) := by
  rw [← shift_toNat, BitVec.ofNat_toNat, BitVec.setWidth_eq]

/-! ## One bit of a byte -/

theorem getLsbD_bitMask (b k : Fin 8) : (bitMask b).getLsbD k.val = decide (k = b) := by revert b k; decide

/-- RES (R541). -/
theorem getLsbD_resetBit (b : Fin 8) (v : Byte) (k : Fin 8) :
    (resetBit b v).getLsbD k.val = (v.getLsbD k.val && decide (k ≠ b)) := by
  rw [resetBit, BitVec.getLsbD_and, BitVec.getLsbD_not, getLsbD_bitMask, decide_eq_true k.isLt, Bool.true_and, decide_not]

/-- SET (R543). -/
theorem getLsbD_setBit (b : Fin 8) (v : Byte) (k : Fin 8) :
    (setBit b v).getLsbD k.val = (v.getLsbD k.val || decide (k = b)) := by
  rw [setBit, BitVec.getLsbD_or, getLsbD_bitMask]

/-- BIT (R539). -/
theorem bitFlags_spec (b : Fin 8) (v f : Byte) : bitFlags b v f &&& 0x0F = 0 ∧ flagZ (bitFlags b v f) = !v.getLsbD b.val ∧
    flagN (bitFlags b v f) = false ∧ flagH (bitFlags b v f) = true ∧ flagC (bitFlags b v f) = flagC f :=
  ⟨packFlags_low .., flags_packFlags ..⟩

/-! ## What a micro-op does to the CPU's part of a state -/

/-- The registers after an accumulator rotate (R511 to R514). -/
def Regs.rotatedA (r : Regs) (op : RotOp) : Regs := { r with a := (rotateA op r.a r.f).1, f := (rotateA op r.a r.f).2 }

namespace MicroOp
variable (r : Regs) (x : Ctx)

theorem rlca_computes : rlca.Computes r x (r.rotatedA .rlc) := fun _ _ _ => rfl

theorem rrca_computes : rrca.Computes r x (r.rotatedA .rrc) := fun _ _ _ => rfl

theorem rla_computes : rla.Computes r x (r.rotatedA .rl) := fun _ _ _ => rfl

theorem rra_computes : rra.Computes r x (r.rotatedA .rr) := fun _ _ _ => rfl

theorem rotReg_computes (op : RotOp) (y : Reg8) : (rotReg op y).Computes r x
    { r.set y (rotate op (r.get y) r.f).1 with f := (rotate op (r.get y) r.f).2 } := fun _ _ _ => rfl

theorem bitReg_computes (b : Fin 8) (y : Reg8) : (bitReg b y).Computes r x { r with f := bitFlags b (r.get y) r.f } :=
  fun _ _ _ => rfl

theorem bitTmp_computes (b : Fin 8) : (bitTmp b).Computes r x { r with f := bitFlags b x.tmp r.f } := fun _ _ _ => rfl

theorem resReg_computes (b : Fin 8) (y : Reg8) : (resReg b y).Computes r x (r.set y (resetBit b (r.get y))) := fun _ _ _ => rfl

theorem setReg_computes (b : Fin 8) (y : Reg8) : (setReg b y).Computes r x (r.set y (setBit b (r.get y))) := fun _ _ _ => rfl

theorem rotMem_stores (op : RotOp) : (rotMem op).Stores r x r.hl (rotate op x.tmp r.f).1 { r with f := (rotate op x.tmp r.f).2 } :=
  fun s q k => storeHlF_withCpu s r x q k _

theorem resMem_stores (b : Fin 8) : (resMem b).Stores r x r.hl (resetBit b x.tmp) r := fun s q k => memWrite_withCpu s r x q k _ _

theorem setMem_stores (b : Fin 8) : (setMem b).Stores r x r.hl (setBit b x.tmp) r := fun s q k => memWrite_withCpu s r x q k _ _

end MicroOp

section Runs
variable {s : State} {ops : List Micro} {k : Nat} {op : MicroOp} {v : Byte} {r : Regs}

/-- An instruction of one accumulator rotate: A as arithmetic, Z cleared whatever the result, C the bit shifted out (R511). -/
theorem completes_rotatedA {rot : RotOp} (hv : s.vbkRefused = false)
    (hop : op.Computes s.regs s.eng.ctx (s.regs.rotatedA rot)) :
    ∃ f : Byte, f &&& 0x0F = 0 ∧ flagZ f = false ∧ flagN f = false ∧ flagH f = false ∧
      flagC f = (shift rot s.regs.a (flagC s.regs.f)).2 ∧ Completes (runFrom 0 [does op] s)
        { s.regs with a := BitVec.ofNat 8 (shiftedNat rot s.regs.a.toNat (flagC s.regs.f).toNat), f := f } (tick s) s := by
  obtain ⟨hz, hn, hh, hc⟩ := flags_packFlags false false false (shift rot s.regs.a (flagC s.regs.f)).2
  refine ⟨_, packFlags_low .., hz, hn, hh, hc, ?_⟩
  rw [← shift_fst]
  exact completes_computes hv hop rfl

/-- A read at HL and a store there are refused where the byte stored selects VRAM bank 1 (R131), and complete otherwise. -/
theorem refused_or_completesStoring_hl (hv : s.vbkRefused = false)
    (hop : op.Stores s.regs { s.eng.ctx with tmp := read8 (tick s) s.regs.hl } s.regs.hl v r)
    (hops : ops.drop k = [does (.load .hl), does op, does .pad]) :
    if selectsVramBank1 s.params.cgb s.regs.hl v then runFrom k ops s = .refused .vramBank1
    else CompletesStoring (runFrom k ops s) r (tick (memWrite (tick (memRead (tick s) s.regs.hl)) s.regs.hl v)) s s.regs.hl v := by
  have hload := MicroOp.load_loads s.regs s.eng.ctx .hl
  split
  · next hsel => exact refused_loads_stores hv hload hop hops hsel
  · next hsel => exact completesStoring_loads_stores hv hload hop hops hsel

end Runs

/-! ## The statements -/

/-- Settles O18: one micro-op on registers each; the accumulator rotates by `completes_rotatedA`. -/
theorem rotateRegister : Obligations.RotateRegister := by
  unfold Obligations.RotateRegister
  refine fun s hv => ⟨rfl, rfl, rfl, rfl, ?_, ?_, ?_, ?_, fun op y => ⟨encode_rotReg op y, ?_⟩⟩
  · exact completes_rotatedA hv (MicroOp.rlca_computes s.regs s.eng.ctx)
  · exact completes_rotatedA hv (MicroOp.rrca_computes s.regs s.eng.ctx)
  · exact completes_rotatedA hv (MicroOp.rla_computes s.regs s.eng.ctx)
  · exact completes_rotatedA hv (MicroOp.rra_computes s.regs s.eng.ctx)
  · rw [exec_rotReg]
    exact completes_computes hv (MicroOp.rotReg_computes s.regs s.eng.ctx op y) rfl

/-- Settles O19: the results by `shift_toNat`; the flags are packed beside them. -/
theorem shiftFunctions : Obligations.ShiftFunctions := by
  unfold Obligations.ShiftFunctions
  intro op v f
  obtain ⟨hz, hn, hh, hc⟩ := flags_packFlags ((rotate op v f).1 == 0) false false (shift op v (flagC f)).2
  have hr := shift_toNat op v (flagC f)
  refine ⟨⟨packFlags_low .., hz, hn, hh⟩, ?_⟩
  cases op <;> exact ⟨hr, hc⟩

/-- Settles O20: a read into `ctx.tmp`, then a store of the function's result. -/
theorem rotateMemory : Obligations.RotateMemory := by
  unfold Obligations.RotateMemory
  refine fun op s hv => ⟨encode_rotHl op, ?_⟩
  rw [exec_rotHl]
  exact refused_or_completesStoring_hl hv (MicroOp.rotMem_stores _ _ op) rfl

/-- Settles O21: one micro-op on registers each. -/
theorem bitRegister : Obligations.BitRegister := by
  unfold Obligations.BitRegister
  refine fun b y s hv => ⟨encode_bitReg b y, encode_resReg b y, encode_setReg b y, ?_, ?_, ?_⟩
  · obtain ⟨hlow, hz, hn, hh, hc⟩ := bitFlags_spec b (s.regs.get y) s.regs.f
    rw [exec_bitReg]
    exact ⟨_, hlow, hz, hn, hh, hc, completes_computes hv (MicroOp.bitReg_computes s.regs s.eng.ctx b y) rfl⟩
  · rw [exec_resReg]
    exact ⟨_, getLsbD_resetBit b _, completes_computes hv (MicroOp.resReg_computes s.regs s.eng.ctx b y) rfl⟩
  · rw [exec_setReg]
    exact ⟨_, getLsbD_setBit b _, completes_computes hv (MicroOp.setReg_computes s.regs s.eng.ctx b y) rfl⟩

/-- Settles O22: BIT works on `ctx.tmp`, which the read at HL has filled; RES and SET store it with the bit changed. -/
theorem bitMemory : Obligations.BitMemory := by
  unfold Obligations.BitMemory
  refine fun b s hv => ⟨encode_bitHl b, encode_resHl b, encode_setHl b, ?_, ?_, ?_⟩
  · obtain ⟨hlow, hz, hn, hh, hc⟩ := bitFlags_spec b (read8 (tick s) s.regs.hl) s.regs.f
    rw [exec_bitHl]
    exact ⟨_, hlow, hz, hn, hh, hc, completes_loads_computes hv (MicroOp.load_loads s.regs s.eng.ctx .hl)
      (MicroOp.bitTmp_computes _ _ b) rfl⟩
  · beta_reduce
    rw [exec_resHl]
    exact ⟨_, getLsbD_resetBit b _, refused_or_completesStoring_hl hv (MicroOp.resMem_stores _ _ b) rfl⟩
  · beta_reduce
    rw [exec_setHl]
    exact ⟨_, getLsbD_setBit b _, refused_or_completesStoring_hl hv (MicroOp.setMem_stores _ _ b) rfl⟩

end Sys2Proof.Machine
end


section
/-! Control transfer (R551 to R561): a conditional micro-op in a run, what the micro-ops of jumps, calls and returns do to a state in
normal form, and the three statements as uses of it. -/

namespace Sys2Proof.Machine

/-! ## The bytes of an instruction -/

theorem encode_JP_nn (nn : Word) : encode (.JP_nn nn) = [0xC3, lowByte nn, highByte nn] :=
  congrArg (fun lo => [0xC3, lo, highByte nn]) (immLow_eq_lowByte nn)

theorem encode_jpCond (cc : Cond) (nn : Word) :
    encode (Instr.jpCond cc nn) = [0xC2 ||| (condCode cc <<< 3), lowByte nn, highByte nn] := by
  rw [← immLow_eq_lowByte]
  cases cc <;> rfl

theorem encode_jrCond (cc : Cond) (e : Byte) : encode (Instr.jrCond cc e) = [0x20 ||| (condCode cc <<< 3), e] := by
  cases cc <;> rfl

theorem encode_CALL_nn (nn : Word) : encode (.CALL_nn nn) = [0xCD, lowByte nn, highByte nn] :=
  congrArg (fun lo => [0xCD, lo, highByte nn]) (immLow_eq_lowByte nn)

theorem encode_callCond (cc : Cond) (nn : Word) :
    encode (Instr.callCond cc nn) = [0xC4 ||| (condCode cc <<< 3), lowByte nn, highByte nn] := by
  rw [← immLow_eq_lowByte]
  cases cc <;> rfl

theorem encode_retCond (cc : Cond) : encode (Instr.retCond cc) = [0xC0 ||| (condCode cc <<< 3)] := by cases cc <;> rfl

theorem encode_rst (t : Fin 8) : encode (Instr.rst t) = [0xC7 ||| (bitCode t <<< 3)] := by fin_cases t <;> rfl

/-! ## What a micro-op does to the CPU's part of a state -/

namespace MicroOp
variable (r : Regs) (x : Ctx)

theorem jumpNn_computes : jumpNn.Computes r x { r with pc := x.nn } := fun _ _ _ => rfl

theorem jumpHl_computes : jumpHl.Computes r x { r with pc := r.hl } := fun _ _ _ => rfl

theorem jumpRel_computes : jumpRel.Computes r x { r with pc := r.pc + signExtend8 x.e } := fun _ _ _ => rfl

theorem restart_computes (t : Fin 8) : (restart t).Computes r x { r with pc := BitVec.ofNat 16 (8 * t.val) } := fun _ _ _ => rfl

theorem pushPcHigh_stores : pushPcHigh.Stores r x (r.sp - 1) (highByte r.pc) { r with sp := r.sp - 1 } := fun s q k =>
  pushByte_withCpu s r x q k _

/-- The low byte goes below the high byte, which has moved SP already (R556). -/
theorem pushPcLow_stores : pushPcLow.Stores { r with sp := r.sp - 1 } x (r.sp - 2) (lowByte r.pc) { r with sp := r.sp - 2 } :=
  fun s q k => by
    have hsp : r.sp - 1 - 1 = r.sp - 2 := by bv_omega
    have h := pushByte_withCpu s { r with sp := r.sp - 1 } x q k (lowByte r.pc)
    rwa [hsp] at h

/-- RETI's jump enables interrupts in the same bus cycle (R560). -/
theorem jumpNnEnable_withCpu (s : State) (q : List Micro) (k : Nat) :
    micro jumpNnEnable (withCpu s r x q k) = withCpu (setIme s .enabled) { r with pc := x.nn } x q k := rfl

end MicroOp

/-! ## A run with conditions -/

section Runs
variable {s s' u : State} {r r' r1 r2 r3 : Regs} {x x' : Ctx} {q q' ops rest : List Micro} {j j' k : Nat} {m : Micro}
  {op op1 op2 op3 : MicroOp} {cc : Cond} {a1 a2 : Word} {v1 v2 : Byte}

/-- A micro-op without a condition, or whose condition holds, runs in the next bus cycle, and the run goes on from what it
leaves (R364). -/
theorem runFrom_step_of_holds (hops : ops.drop k = m :: rest) (hm : m.holds (withCpu s r x q j) = true)
    (hop : ∀ q j, micro m.op (withCpu (tick s) r x q j) = withCpu s' r' x' q j) :
    runFrom k ops (withCpu s r x q j) = runFrom (k + 1) ops (withCpu s' r' x' q j) := by
  have hm' : m.holds (tick (withCpu s r x ops k)) = true := hm
  have hrun : runMicro m (tick (withCpu s r x ops k)) = withCpu s' r' x' ops (k + 1) :=
    (if_pos hm').trans (congrArg bumpQi (hop ops k))
  rw [runFrom_withCpu, runFrom_withCpu, hops, drop_succ_of_drop hops, runRest, if_pos hm', hrun]

/-- An instruction ends at a micro-op whose condition fails, with nothing done but the bus cycle (R364). -/
theorem completes_of_not_holds (hv : s.vbkRefused = false) (hops : ops.drop k = onlyIf cc op :: rest)
    (hc : condHolds cc r.f = false) : Completes (runFrom k ops (withCpu s r x q j)) r (tick s) s := by
  rw [runFrom_withCpu, hops, runRest_false_withCpu hc]
  exact completes_finish hv le_rfl fun b hb => read8_tick hb

/-- An instruction that ends with an idle bus cycle. -/
theorem completes_lastPad (hv : s.vbkRefused = false) (hops : ops.drop k = [does .pad]) :
    Completes (runFrom k ops (withCpu s r x q j)) r (tick s) s :=
  completes_computes hv (MicroOp.pad_computes r x) hops

/-- A micro-op on registers and an idle bus cycle make a jump. -/
theorem completes_jump (hv : s.vbkRefused = false) (hops : ops.drop k = [m, does .pad])
    (hm : m.holds (withCpu s r x q j) = true) (hop : m.op.Computes r x r') :
    Completes (runFrom k ops (withCpu s r x q j)) r' (tick (tick s)) s := by
  rw [runFrom_step_of_holds hops hm (hop (tick s))]
  exact (completes_lastPad (s := tick s) hv (drop_succ_of_drop hops)).of_keepsSteady (keepsSteady_tick s)

/-! ## Calls -/

/-- What two stores leave does not depend on the CPU's part of the state, once the queue is exhausted. -/
theorem CompletesStoringTwice.withCpu {s2 : State}
    (h : CompletesStoringTwice (finish (withCpu u r x q j)) r u s a1 v1 s2 a2 v2) (hk : q'.length ≤ j') :
    CompletesStoringTwice (finish (withCpu u r' x' q' j')) r' u s a1 v1 s2 a2 v2 := by
  obtain ⟨t, ho, -, -, hsecond, hfirst, hframe⟩ := h
  obtain ⟨rfl, hv⟩ := finish_eq_next ho
  exact ⟨_, finish_next hv, rfl, agrees_withCpu hk, hsecond, hfirst, hframe⟩

/-- Two storing micro-ops and one on registers leave in memory what they leave with an idle bus cycle at their end. -/
theorem refused_or_completesStoringTwice_computes (hv : s.vbkRefused = false) (hop1 : op1.Stores r x a1 v1 r1)
    (hop2 : op2.Stores r1 x a2 v2 r2) (hop3 : op3.Computes r2 x r3) (hops : ops.drop k = [does op1, does op2, does op3]) :
    if selectsVramBank1 s.params.cgb a1 v1 || selectsVramBank1 s.params.cgb a2 v2 then
      runFrom k ops (withCpu s r x q j) = .refused .vramBank1
    else CompletesStoringTwice (runFrom k ops (withCpu s r x q j)) r3
      (tick (memWrite (tick (memWrite (tick s) a1 v1)) a2 v2)) s a1 v1 (tick (memWrite (tick s) a1 v1)) a2 v2 := by
  have hrun : runFrom k ops (withCpu s r x q j) =
      finish (withCpu (tick (memWrite (tick (memWrite (tick s) a1 v1)) a2 v2)) r3 x ops (k + 3)) := by
    have hops1 := drop_succ_of_drop hops
    rw [runFrom_step hops (hop1 (tick s)), runFrom_step hops1 (hop2 (tick _)), runFrom_withCpu, drop_succ_of_drop hops1,
      runRest_does_withCpu, hop3, runRest_nil, bumpQi_withCpu]
  have hpad := refused_or_completesStoringTwice (q := []) (j := 0) (k := 0) hv hop1 hop2 rfl
  rw [runFrom_storesTwice hop1 hop2 rfl] at hpad
  rw [hrun]
  split at hpad
  · next hsel => exact (if_pos hsel).mpr (finish_refused ((vbkRefused_storesTwice hv).trans hsel))
  · next hsel => exact (if_neg hsel).mpr (hpad.withCpu (length_le_of_drop hops))

/-- An internal bus cycle, the two pushes of PC and a jump make a call (R556, R557, R561). -/
theorem refused_or_calls {target : Word} (hv : s.vbkRefused = false)
    (hops : ops.drop k = [m, does .pushPcHigh, does .pushPcLow, does op]) (hpad : m.op = .pad)
    (hm : m.holds (withCpu s r x q j) = true)
    (hop : op.Computes { r with sp := r.sp - 2 } x { r with sp := r.sp - 2, pc := target }) :
    if selectsVramBank1 s.params.cgb (r.sp - 1) (highByte r.pc) || selectsVramBank1 s.params.cgb (r.sp - 2) (lowByte r.pc) then
      runFrom k ops (withCpu s r x q j) = .refused .vramBank1
    else CompletesStoringTwice (runFrom k ops (withCpu s r x q j)) { r with sp := r.sp - 2, pc := target }
      (tick (memWrite (tick (memWrite (tick (tick s)) (r.sp - 1) (highByte r.pc))) (r.sp - 2) (lowByte r.pc))) s
      (r.sp - 1) (highByte r.pc) (tick (memWrite (tick (tick s)) (r.sp - 1) (highByte r.pc))) (r.sp - 2) (lowByte r.pc) := by
  have hcall := refused_or_completesStoringTwice_computes (s := tick s) (q := q) (j := j) hv (MicroOp.pushPcHigh_stores r x)
    (MicroOp.pushPcLow_stores r x) hop (drop_succ_of_drop hops)
  rw [runFrom_step_of_holds hops hm (by rw [hpad]; exact MicroOp.pad_computes r x (tick s))]
  split at hcall
  · next hsel => exact (if_pos hsel).mpr hcall
  · next hsel => exact (if_neg hsel).mpr hcall.of_tick

/-! ## Returns -/

theorem keepsSteady_setIme (s : State) (v : Ime) : KeepsSteady s (setIme s v) := fun _ hb => ⟨hb, rfl⟩

theorem vbkRefused_twoReads (s : State) (a1 a2 : Word) :
    (memRead (tick (memRead (tick s) a1)) a2).vbkRefused = s.vbkRefused := by
  simp only [memRead_vbkRefused, tick_vbkRefused]

/-- Two reads, each moving SP, fill the latches of a return, the low one first (R558). -/
theorem runFrom_pops (hops : ops.drop k = m :: does .popMsb :: rest) (hpop : m.op = .popLsb)
    (hm : m.holds (withCpu s r x q j) = true) : runFrom k ops (withCpu s r x q j) =
    runFrom (k + 2) ops (withCpu (memRead (tick (memRead (tick s) r.sp)) (r.sp + 1)) { r with sp := r.sp + 2 }
      ((x.latch .lsb (read8 (tick s) r.sp)).latch .msb (read8 (tick (memRead (tick s) r.sp)) (r.sp + 1))) q j) := by
  have hsp : r.sp + 1 + 1 = r.sp + 2 := by bv_omega
  rw [runFrom_step_of_holds hops hm (by rw [hpop]; exact fun q j => popLatch_withCpu (tick s) r x q j .lsb),
    runFrom_step (drop_succ_of_drop hops) fun q j => popLatch_withCpu _ _ _ q j .msb, hsp]

/-- A return: the two bytes popped are the new PC, the first one its low byte (R558, R559). -/
theorem completes_ret (hv : s.vbkRefused = false) (hops : ops.drop k = [m, does .popMsb, does .jumpNn, does .pad])
    (hpop : m.op = .popLsb) (hm : m.holds (withCpu s r x q j) = true) :
    Completes (runFrom k ops (withCpu s r x q j))
      { r with
        sp := r.sp + 2
        pc := word (read8 (tick (memRead (tick s) r.sp)) (r.sp + 1)) (read8 (tick s) r.sp) }
      (tick (tick (memRead (tick (memRead (tick s) r.sp)) (r.sp + 1)))) s := by
  rw [runFrom_pops hops hpop hm]
  have hjump := drop_succ_of_drop (drop_succ_of_drop hops)
  refine Completes.of_keepsSteady ?_ (keepsSteady_twoReads s r.sp (r.sp + 1))
  exact completes_jump ((vbkRefused_twoReads s r.sp (r.sp + 1)).trans hv) hjump rfl (MicroOp.jumpNn_computes _ _)

/-- RETI enables interrupts in the bus cycle that sets PC (R560). -/
theorem completes_reti (hv : s.vbkRefused = false) :
    Completes (runFrom 0 Microcode.reti (withCpu s r x q j))
      { r with
        sp := r.sp + 2
        pc := word (read8 (tick (memRead (tick s) r.sp)) (r.sp + 1)) (read8 (tick s) r.sp) }
      (tick (setIme (tick (memRead (tick (memRead (tick s) r.sp)) (r.sp + 1))) .enabled)) s := by
  rw [runFrom_pops (m := does .popLsb) rfl rfl rfl, runFrom_step rfl (MicroOp.jumpNnEnable_withCpu _ _ _)]
  have hkeeps := ((keepsSteady_twoReads s r.sp (r.sp + 1)).trans (keepsSteady_tick _)).trans (keepsSteady_setIme _ .enabled)
  refine Completes.of_keepsSteady (completes_lastPad ?_ rfl) hkeeps
  rw [setIme_vbkRefused, tick_vbkRefused, vbkRefused_twoReads, hv]

end Runs

/-! ## The statements -/

/-- Settles O23: a micro-op that sets PC and an idle bus cycle, or, where the condition fails, one bus cycle. -/
theorem jumpsSetPc : Obligations.JumpsSetPc := by
  unfold Obligations.JumpsSetPc
  intro s hv holds goesTo fallsThrough
  have holds_iff (cc : Cond) : holds cc ↔ condHolds cc s.regs.f = true := by cases cc <;> simp [holds, condHolds]
  have not_holds_iff (cc : Cond) : ¬ holds cc ↔ condHolds cc s.regs.f = false := by rw [holds_iff, Bool.not_eq_true]
  have hnn (nn : Word) := MicroOp.jumpNn_computes s.regs (withNn nn s).eng.ctx
  have hrel (e : Byte) := MicroOp.jumpRel_computes s.regs (withE e s).eng.ctx
  simp only [withNn_nn] at hnn
  simp only [show ∀ e, (withE e s).eng.ctx.e = e from fun _ => rfl, add_signExtend8] at hrel
  refine ⟨⟨rfl, completes_computes hv (MicroOp.jumpHl_computes s.regs s.eng.ctx) rfl⟩,
    fun nn => ⟨encode_JP_nn nn, completes_jump (m := does .jumpNn) hv rfl rfl (hnn nn)⟩,
    fun cc nn => ⟨encode_jpCond cc nn, fun hc => ?_, fun hc => ?_⟩,
    fun e => ⟨rfl, completes_jump (m := does .jumpRel) hv rfl rfl (hrel e)⟩,
    fun cc e => ⟨encode_jrCond cc e, fun hc => ?_, fun hc => ?_⟩⟩
  · simp only [goesTo, exec_jpCond]
    exact completes_jump (m := onlyIf cc .jumpNn) hv rfl ((holds_iff cc).mp hc) (hnn nn)
  · simp only [fallsThrough, exec_jpCond]
    exact completes_of_not_holds hv rfl ((not_holds_iff cc).mp hc)
  · simp only [goesTo, exec_jrCond]
    exact completes_jump (m := onlyIf cc .jumpRel) hv rfl ((holds_iff cc).mp hc) (hrel e)
  · simp only [fallsThrough, exec_jrCond]
    exact completes_of_not_holds hv rfl ((not_holds_iff cc).mp hc)

/-- Settles O24: the three forms push PC in the same way and differ in the micro-op that sets it. -/
theorem callsPushReturnAddress : Obligations.CallsPushReturnAddress := by
  unfold Obligations.CallsPushReturnAddress
  intro s hv hi lo s1 s2 calls
  have hnn (nn : Word) := MicroOp.jumpNn_computes { s.regs with sp := s.regs.sp - 2 } (withNn nn s).eng.ctx
  simp only [withNn_nn] at hnn
  refine ⟨fun nn => ⟨encode_CALL_nn nn, refused_or_calls (m := does .pad) hv rfl rfl rfl (hnn nn)⟩,
    fun cc nn => ⟨encode_callCond cc nn, fun hc => ?_, fun hc => ?_⟩, fun t => ⟨encode_rst t, ?_⟩⟩
  · simp only [calls, exec_callCond]
    exact refused_or_calls (m := onlyIf cc .pad) hv rfl rfl hc (hnn nn)
  · rw [exec_callCond]
    exact completes_of_not_holds hv rfl hc
  · simp only [calls, exec_rst]
    exact refused_or_calls (m := does .pad) hv rfl rfl rfl (MicroOp.restart_computes _ s.eng.ctx t)

/-- Settles O25: two pops and a jump; RETI's jump enables interrupts as well, and RET cc has an internal bus cycle first. -/
theorem returnsPopPc : Obligations.ReturnsPopPc := by
  unfold Obligations.ReturnsPopPc
  intro s hv lo s1 hi s2 back
  refine ⟨⟨rfl, completes_ret (m := does .popLsb) hv rfl rfl rfl⟩, ⟨rfl, completes_reti hv⟩,
    fun cc => ⟨encode_retCond cc, fun hc => ?_, fun hc => ?_⟩⟩
  · rw [exec_retCond]
    exact completes_pad rfl (completes_ret (s := tick s) (m := onlyIf cc .popLsb) hv rfl rfl hc)
  · rw [exec_retCond]
    exact completes_pad rfl (completes_of_not_holds (s := tick s) hv rfl hc)

end Sys2Proof.Machine
end


section
/-! System (R571 to R575): an instruction that ends with a micro-op on the engine, and the three statements as uses of it. -/

namespace Sys2Proof.Machine

/-! ## What HALT and STOP do -/

/-- HALT with interrupts enabled or nothing pending (R572). -/
theorem haltCpu_of_halts {s : State} (h : s.eng.ime = .enabled ∨ pending s = 0) :
    haltCpu s = { s with eng := { s.eng with run := .halted } } := by
  simp only [haltCpu, if_pos h]

/-- HALT with an interrupt pending that will not be taken: the HALT bug, but on CGB nothing (R572). -/
theorem haltCpu_of_goesOn {s : State} (hi : s.eng.ime ≠ .enabled) (hp : pending s ≠ 0) :
    haltCpu s = if s.params.cgb then s else { s with eng := { s.eng with haltBug := true } } := by
  simp only [haltCpu, if_neg (not_or_intro hi hp)]
  split <;> rfl

/-- The CPU stopped (R573). -/
def stopped (s : State) : State := { s with eng := { s.eng with run := .stopped } }

/-- STOP of one byte (R573). -/
theorem stopCpu_one {s : State} (h : s.params.stopLength = .one) : stopCpu s = stopped s := by
  unfold stopCpu
  rw [h]
  rfl

/-- STOP of two bytes (R573). -/
theorem stopCpu_two {s : State} (h : s.params.stopLength = .two) : stopCpu s = stopped (immRead s) := by
  unfold stopCpu
  rw [h]
  rfl

/-! ## The end of an instruction -/

theorem keepsSteady_engine (s : State) (e : Engine) : KeepsSteady s { s with eng := e } := fun _ hb => ⟨hb, rfl⟩

/-- The last micro-op of an instruction completes it, if it leaves every steady address alone. -/
theorem completes_last {s u : State} {r r' : Regs} {x x' : Ctx} {q ops : List Micro} {j k : Nat} {op : MicroOp}
    (hv : u.vbkRefused = false) (hops : ops.drop k = [does op])
    (hop : ∀ q j, micro op (withCpu (tick s) r x q j) = withCpu u r' x' q j) (hu : KeepsSteady s u) :
    Completes (runFrom k ops (withCpu s r x q j)) r' u s := by
  rw [runFrom_step hops hop, runFrom_withCpu, drop_succ_of_drop hops, runRest_nil]
  exact completes_finish hv (length_le_of_drop hops) fun b hb => (hu b hb).2

/-- As `completes_last`, for a micro-op that changes the engine alone. -/
theorem completes_engine {s : State} {ops : List Micro} {op : MicroOp} (e : Engine) (hv : s.vbkRefused = false)
    (hops : ops = [does op])
    (hop : ∀ r x q j, micro op (withCpu (tick s) r x q j) = withCpu { tick s with eng := e } r x q j) :
    Completes (runFrom 0 ops s) s.regs { tick s with eng := e } s :=
  completes_last (q := s.eng.queue) (j := s.eng.qi) hv hops (hop s.regs s.eng.ctx)
    ((keepsSteady_tick s).trans (keepsSteady_engine _ e))

/-! ## The statements -/

/-- Settles O26: NOP's micro-op does nothing, and those of DI and EI change IME alone. -/
theorem nopDiEi : Obligations.NopDiEi := by
  unfold Obligations.NopDiEi
  intro s hv ime
  refine ⟨⟨rfl, completes_lastPad hv rfl⟩, ⟨rfl, completes_engine _ hv rfl fun _ _ _ _ => rfl⟩,
    ⟨rfl, completes_engine _ hv rfl fun r x q j => ?_⟩⟩
  exact (requestIme_withCpu (tick s) r x q j).trans (congrArg (withCpu · r x q j) (requestIme_eq (tick s)))

/-- Settles O27: the three cases of HALT's micro-op. -/
theorem haltEntersHalted : Obligations.HaltEntersHalted := by
  unfold Obligations.HaltEntersHalted
  intro s hv p pend
  have hhalt {e : Engine} (he : haltCpu p = { p with eng := e }) : Completes (exec .HALT s) s.regs { p with eng := e } s := by
    rw [exec_HALT]
    refine completes_engine e hv rfl fun r x q j => ?_
    exact (haltCpu_withCpu p r x q j).trans (congrArg (withCpu · r x q j) he)
  refine ⟨rfl, fun h => hhalt (haltCpu_of_halts h), fun hi hp hc => hhalt ?_, fun hi hp hc => hhalt (e := p.eng) ?_⟩
  · exact (haltCpu_of_goesOn hi hp).trans (if_neg (ne_true_of_eq_false hc))
  · exact (haltCpu_of_goesOn hi hp).trans (if_pos hc)

/-- Settles O28: the second byte, where STOP has one, is an immediate read of its only micro-op. -/
theorem stopEntersStopped : Obligations.StopEntersStopped := by
  unfold Obligations.StopEntersStopped
  intro s hv stop
  refine ⟨rfl, fun h => completes_engine _ hv rfl fun _ _ _ _ => stopCpu_one h, fun h => ?_⟩
  exact completes_last (q := s.eng.queue) (j := s.eng.qi) hv rfl (fun _ _ => stopCpu_two h)
    (((keepsSteady_tick s).trans (keepsSteady_memRead _ _)).trans (keepsSteady_engine _ _))

end Sys2Proof.Machine
end


section
/-! Interrupts and the run state (R601 to R615): the pending set by its bits, the state an interrupt leaves, and what a CPU that does not
run waits for. -/

namespace Sys2Proof.Machine

/-! ## Bits of a small register -/

/-- A register is zero where no bit of it is set. -/
theorem eq_zero_iff_getLsbD {w : Nat} (v : BitVec w) : v = 0 ↔ ∀ i : Fin w, v.getLsbD i.val = false := by
  constructor
  · rintro rfl i
    simp
  · intro h
    apply BitVec.eq_of_getLsbD_eq
    intro i hi
    simpa using h ⟨i, hi⟩

/-- The pending set, source by source (R603). -/
theorem getLsbD_pending (s : State) (j : Fin 5) :
    (pending s).getLsbD j.val = (s.intr.flags.getLsbD j.val && s.intr.ie.getLsbD j.val) := by
  simp [pending]

/-- The source serviced first is the lowest one pending (R605). -/
theorem lowestBit_eq {p : BitVec 5} {k : Fin 5} (hk : p.getLsbD k.val = true) (hlow : ∀ j, j < k → p.getLsbD j.val = false) :
    lowestBit p = k.val := by
  revert p k
  decide

/-- Clearing the IF bit of source `k` leaves the others (R607). -/
theorem getLsbD_clearFlag (flags : BitVec 5) (k j : Fin 5) :
    (flags &&& ~~~(1#5 <<< k.val)).getLsbD j.val = (flags.getLsbD j.val && decide (j ≠ k)) := by
  revert flags k j
  decide

/-! ## Taking an interrupt -/

/-- The dispatch check without an interrupt pending (R604). -/
theorem dispatchCheck_of_pending_zero {s : State} (h : pending s = 0) : dispatchCheck s = s := by
  have hd : dispatches s = false := by simp [dispatches, h]
  rw [dispatchCheck, hd]
  rfl

/-- IF without source `k`, and IME disabled (R607). -/
def acknowledged (s : State) (k : Nat) : State :=
  { s with
    intr := { s.intr with flags := s.intr.flags &&& ~~~(1#5 <<< k) }
    eng := { s.eng with ime := .disabled } }

/-- Taking an interrupt, in normal form: the two pushes of PC and the jump to the vector (R607). -/
theorem takeInterrupt_eq (s : State) (k : Nat) : takeInterrupt s k =
    { memWrite (memWrite (acknowledged s k) (s.regs.sp - 1) (highByte s.regs.pc)) (s.regs.sp - 2) (lowByte s.regs.pc) with
      regs := { s.regs with sp := s.regs.sp - 2, pc := vector k } } := by
  have hsp : s.regs.sp - 1 - 1 = s.regs.sp - 2 := by bv_omega
  have hcpu : acknowledged s k = withCpu (acknowledged s k) s.regs s.eng.ctx s.eng.queue s.eng.qi := rfl
  show setPc (pushByte (pushByte (acknowledged s k) (highByte s.regs.pc)) (lowByte s.regs.pc)) (vector k) = _
  rw [hcpu, pushByte_withCpu, pushByte_withCpu, setPc_withCpu, memWrite_withCpu, memWrite_withCpu]
  simp only [hsp]
  rfl

/-! The operation of the machine has the name `takeInterrupt` itself. -/

namespace Settled

/-- Settles O31: the lowest bit of the pending set is the source taken. -/
theorem takeInterrupt : Obligations.TakeInterrupt := by
  unfold Obligations.TakeInterrupt
  intro s pend
  have hpend (j : Fin 5) : (pending s).getLsbD j.val = pend j := getLsbD_pending s j
  refine ⟨?_, fun k hi hk hlow => ?_⟩
  · rintro (hi | hnone)
    · exact dispatchCheck_of_not_enabled hi
    · exact dispatchCheck_of_pending_zero ((eq_zero_iff_getLsbD _).mpr fun j => (hpend j).trans (hnone j))
  · have hd : dispatches s = true := by
      have hne : pending s ≠ 0 := fun h =>
        Bool.noConfusion (((hpend k).trans hk).symm.trans ((eq_zero_iff_getLsbD _).mp h k))
      simpa [dispatches, hi] using hne
    have hsource : lowestBit (pending s) = k.val :=
      lowestBit_eq ((hpend k).trans hk) fun j hj => (hpend j).trans (hlow j hj)
    refine ⟨_, getLsbD_clearFlag s.intr.flags k, ?_⟩
    rw [dispatchCheck, if_pos hd, hsource, takeInterrupt_eq]
    rfl

end Settled

/-! ## Waiting -/

theorem step_of_halted {s : State} (hf : s.eng.fault = none) (hv : s.vbkRefused = false) (hr : s.eng.run = .halted) :
    step s = .next (haltedStep s) := by
  simp [step, hf, hv, hr]

theorem step_of_stopped {s : State} (hf : s.eng.fault = none) (hv : s.vbkRefused = false) (hr : s.eng.run = .stopped) :
    step s = .next (tick s) := by
  simp [step, hf, hv, hr]

/-- A key edge is a line that was released and is pressed (R631). -/
theorem keyEdge_iff (s : State) : keyEdge s = true ↔
    ∃ i : Fin 4, s.joy.lastLines.getLsbD i.val = true ∧ (joypadLines s.joy.sel s.env.keys).getLsbD i.val = false := by
  rw [keyEdge, bne_iff_ne, Ne, eq_zero_iff_getLsbD, not_forall]
  refine exists_congr fun i => ?_
  simp [lines]

/-- Settles O33: a halted CPU passes a bus cycle and then looks at the pending set; a stopped one passes a bus cycle, whose device
phase looks at the lines. -/
theorem haltedAndStopped : Obligations.HaltedAndStopped := by
  unfold Obligations.HaltedAndStopped
  intro s hf hv pend
  refine ⟨fun hr => ⟨haltedStep s, step_of_halted hf hv hr, rfl, rfl, ?_, rfl⟩,
    fun hr => ⟨step_of_stopped hf hv hr, rfl, rfl, ?_⟩⟩
  · show (if pending (tick s) = 0 then (tick s).eng.run else .running) = _
    rw [tick_run_halted hr]
    rfl
  · rw [tick_run_stopped hr]
    exact if_congr (keyEdge_iff s) rfl rfl

end Sys2Proof.Machine
end


section
/-! The timer (R56 to R61, R621 to R625): the timer phase, the reload after an overflow, DIV, and how many falling edges of the selected
bit of SYS there are in a number of bus cycles. -/

namespace Sys2Proof.Machine

/-! ## The timer phase (R621) -/

/-- The bit of SYS that TAC selects (R60). -/
def selectedIndex (tac : BitVec 3) : Nat :=
  match tac.toNat % 4 with
  | 0 => 9
  | 1 => 3
  | 2 => 5
  | _ => 7

theorem selectedBit_eq (tac : BitVec 3) (sys : Word) : selectedBit tac sys = sys.getLsbD (selectedIndex tac) := by
  have hcases : ∀ t : BitVec 3, (t.setWidth 2 = 0#2 ∧ selectedIndex t = 9) ∨ (t.setWidth 2 = 1#2 ∧ selectedIndex t = 3) ∨
      (t.setWidth 2 = 2#2 ∧ selectedIndex t = 5) ∨ (t.setWidth 2 = 3#2 ∧ selectedIndex t = 7) := by decide
  obtain ⟨hw, hi⟩ | ⟨hw, hi⟩ | ⟨hw, hi⟩ | ⟨hw, hi⟩ := hcases tac <;> rw [selectedBit, hw, hi] <;> rfl

theorem Timer.nextSignal_eq (t : Timer) :
    t.nextSignal = (t.tac.getLsbD 2 && (t.sys + 4).getLsbD (selectedIndex t.tac)) :=
  congrArg (t.tac.getLsbD 2 && ·) (selectedBit_eq t.tac _)

/-- Counting on from 0xFF gives 0x00 (R621). -/
theorem ite_eq_add_one (v : Byte) : (if v = 0xFF then 0x00 else v + 1) = v + 1 := by
  split
  · next h => rw [h]; rfl
  · rfl

/-! The operation of the machine has the name `timerPhase` itself. -/

namespace Settled

/-- Settles O34: the timer's next value field by field; no other part of the state is in the phase's update. -/
theorem timerPhase : Obligations.TimerPhase := by
  unfold Obligations.TimerPhase
  intro s t tima bit signal falls
  have hsignal : s.timer.nextSignal = signal := s.timer.nextSignal_eq
  have hfalls : s.timer.falls = falls := congrArg (s.timer.signal && !·) hsignal
  refine ⟨?_, rfl, rfl⟩
  rw [ite_eq_add_one, ← hfalls, ← hsignal]
  rfl

end Settled

/-! ## The reload (R622, R623) -/

/-- An overflow leaves TIMA at zero and the signal low (R622). -/
theorem Timer.advance_overflow {t : Timer} (h : t.advance.reloadPending = true) :
    t.advance.tima = 0x00 ∧ t.advance.signal = false := by
  simp only [Timer.advance, Bool.and_eq_true, beq_iff_eq] at h ⊢
  obtain ⟨hfalls, hfull⟩ := h
  rw [if_pos hfalls, hfull]
  simp only [Timer.falls, Bool.and_eq_true, Bool.not_eq_true'] at hfalls
  exact ⟨rfl, hfalls.2⟩

/-- Where the signal is low there is nothing to count: TIMA is the one after the reload (R621). -/
theorem Timer.advance_of_signal_low {t : Timer} (h : t.signal = false) :
    t.advance.tima = t.reloaded ∧ t.advance.reloadPending = false := by
  simp [Timer.advance, Timer.falls, h]

theorem Timer.reloaded_of_pending {t : Timer} (h : t.reloadPending = true) : t.reloaded = t.tma := if_pos h

theorem Timer.reloaded_of_not_pending {t : Timer} (h : t.reloadPending = false) : t.reloaded = t.tima := by
  simp [Timer.reloaded, h]

/-- A reload that is due requests TIMER (R622). -/
theorem timerPhase_requests {s : State} (h : s.timer.reloadPending = true) : (timerPhase s).intr.flags.getLsbD 2 = true := by
  rw [timerPhase_intr_flags, if_pos h]
  simp

/-- Settles O35: after an overflow the signal is low, so the next timer phase only reloads, and after a write of TIMA does not even
that. -/
theorem timaReload : Obligations.TimaReload := by
  unfold Obligations.TimaReload
  intro s u hover hu
  obtain ⟨hzero, hlow⟩ := Timer.advance_overflow hover
  rw [timerPhase_timer] at hu hover
  rw [← hu] at hover hzero hlow
  obtain ⟨htima, hpending⟩ := Timer.advance_of_signal_low hlow
  refine ⟨by rw [timerPhase_timer, ← hu, hzero], hzero, ⟨htima.trans (Timer.reloaded_of_pending hover), hpending,
    timerPhase_requests hover⟩, fun v => ?_, fun v => ?_⟩
  · obtain ⟨hkept, hcancelled⟩ := Timer.advance_of_signal_low (t := (write8 u 0xFF05 v).timer) hlow
    exact ⟨hkept, hcancelled, rfl⟩
  · obtain ⟨hloaded, -⟩ := Timer.advance_of_signal_low (t := (write8 u 0xFF06 v).timer) hlow
    exact ⟨hzero, hloaded.trans (Timer.reloaded_of_pending hover), timerPhase_requests (s := write8 u 0xFF06 v) hover⟩

/-! ## DIV (R57, R624) -/

theorem highByte_toNat (v : Word) : (highByte v).toNat = v.toNat / 256 := by
  have := v.isLt
  rw [highByte, BitVec.extractLsb'_toNat, Nat.shiftRight_eq_div_pow]
  omega

/-- SYS counts 4 in every bus cycle (R56). -/
theorem elapse_sys (k : Nat) (s : State) : (elapse k s).timer.sys = s.timer.sys + BitVec.ofNat 16 (4 * k) := by
  induction k with
  | zero => simp [elapse]
  | succ k ih =>
    rw [elapse_succ, tick_timer]
    show (elapse k s).timer.sys + 4 = _
    rw [ih, Nat.mul_succ, BitVec.ofNat_add, BitVec.add_assoc]
    rfl

theorem writeIo_sys {s : State} {a : Word} (v : Byte) (h : ioReg s.params.cgb a ≠ .div) :
    (writeIo s a v).timer.sys = s.timer.sys := by
  unfold writeIo
  cases hr : ioReg s.params.cgb a with
  | div => exact absurd hr h
  | vbk => dsimp only; split <;> rfl
  | _ => rfl

/-- Only a write of DIV reaches SYS (R624). -/
theorem write8_sys {s : State} {a : Word} (v : Byte) (h : a ≠ 0xFF04) : (write8 s a v).timer.sys = s.timer.sys := by
  have hdiv : ioReg s.params.cgb a ≠ .div := fun hr => by
    have ha := (ioReg_address s.params.cgb a).resolve_left (by simp [hr])
    rw [hr] at ha
    exact h (Option.some.inj ha).symm
  unfold write8
  cases region a with
  | io => exact writeIo_sys v hdiv
  | _ => rfl

/-- Settles O36: DIV is a part of SYS, which a write of it clears and which then counts in fours. -/
theorem divRegister : Obligations.DivRegister := by
  unfold Obligations.DivRegister
  refine fun s => ⟨rfl, fun v k => ?_, fun a v ha => write8_sys v ha⟩
  show (highByte (elapse k (write8 s 0xFF04 v)).timer.sys).toNat = _
  rw [highByte_toNat, elapse_sys]
  show (0#16 + BitVec.ofNat 16 (4 * k)).toNat / 256 = _
  rw [BitVec.zero_add, BitVec.toNat_ofNat]

/-! ## The rate (R625) -/

/-- Bus cycles from one count of TIMA to the next, by TAC (R625). -/
def timerPeriod (tac : BitVec 3) : Nat :=
  match tac.toNat % 4 with
  | 0 => 256
  | 1 => 4
  | 2 => 16
  | _ => 64

/-- In one period SYS passes through all values of the selected bit and those below it. -/
theorem timerPeriod_mul_four (tac : BitVec 3) : timerPeriod tac * 4 = 2 ^ (selectedIndex tac + 1) := by
  revert tac; decide

theorem selectedIndex_bounds (tac : BitVec 3) : 2 ≤ selectedIndex tac ∧ selectedIndex tac < 16 := by
  revert tac; decide

/-- A step of 4 carries out of bit `b` exactly where that bit falls. -/
theorem add_four_div_two_pow {b : Nat} (hb : 2 ≤ b) (n : Nat) :
    (n + 4) / 2 ^ (b + 1) = n / 2 ^ (b + 1) + (n.testBit b && !(n + 4).testBit b).toNat := by
  have hfour : 4 ≤ 2 ^ b := Nat.pow_le_pow_right (n := 2) (by decide) hb
  have hge : n / 2 ^ b ≤ (n + 4) / 2 ^ b := Nat.div_le_div_right (by omega)
  have hle : (n + 4) / 2 ^ b ≤ n / 2 ^ b + 1 :=
    (Nat.div_le_div_right (Nat.add_le_add_left hfour n)).trans_eq (Nat.add_div_right n (by omega))
  rw [Nat.pow_succ, ← Nat.div_div_eq_div_mul, ← Nat.div_div_eq_div_mul, Nat.testBit_eq_decide_div_mod_eq,
    Nat.testBit_eq_decide_div_mod_eq]
  generalize n / 2 ^ b = q at hge hle
  generalize (n + 4) / 2 ^ b = q' at hge hle
  obtain rfl | rfl : q' = q ∨ q' = q + 1 := by omega
  · simp
  · by_cases hodd : q % 2 = 1
    · have heven : (q + 1) % 2 = 0 := by omega
      simp [hodd, heven]
      omega
    · simp [hodd]
      omega

namespace Timer
variable (t : Timer)

/-- SYS after `m` bus cycles, not reduced modulo 2^16. -/
def ticks (m : Nat) : Nat := t.sys.toNat + 4 * m

/-- The falling edges of the selected bit in `m` bus cycles: the carries out of it. -/
def edges (m : Nat) : Nat := t.ticks m / 2 ^ (selectedIndex t.tac + 1) - t.sys.toNat / 2 ^ (selectedIndex t.tac + 1)

/-- An enabled timer after `m` bus cycles without an overflow. -/
def after (m : Nat) : Timer :=
  { t with
    sys := BitVec.ofNat 16 (t.ticks m)
    tima := BitVec.ofNat 8 (t.tima.toNat + t.edges m)
    signal := (t.ticks m).testBit (selectedIndex t.tac) }

theorem edges_succ (m : Nat) : t.edges (m + 1) =
    t.edges m + ((t.ticks m).testBit (selectedIndex t.tac) && !(t.ticks (m + 1)).testBit (selectedIndex t.tac)).toNat := by
  have hle : t.sys.toNat / 2 ^ (selectedIndex t.tac + 1) ≤ t.ticks m / 2 ^ (selectedIndex t.tac + 1) :=
    Nat.div_le_div_right (Nat.le_add_right _ _)
  have hstep := add_four_div_two_pow (selectedIndex_bounds t.tac).1 (t.ticks m)
  unfold edges
  rw [show t.ticks (m + 1) = t.ticks m + 4 from rfl, hstep]
  omega

/-- A whole number of periods has one falling edge in each, wherever it begins. -/
theorem edges_periods (n : Nat) : t.edges (n * timerPeriod t.tac) = n := by
  have hticks : t.ticks (n * timerPeriod t.tac) = t.sys.toNat + n * 2 ^ (selectedIndex t.tac + 1) := by
    rw [← timerPeriod_mul_four, ticks]
    ring
  rw [edges, hticks, Nat.add_mul_div_right _ _ (Nat.two_pow_pos _), Nat.add_sub_cancel_left]

/-- The selected bit of SYS after `m` bus cycles. -/
theorem selectedBit_ticks (m : Nat) :
    selectedBit t.tac (BitVec.ofNat 16 (t.ticks m)) = (t.ticks m).testBit (selectedIndex t.tac) := by
  rw [selectedBit_eq, BitVec.getLsbD_ofNat, decide_eq_true (selectedIndex_bounds t.tac).2, Bool.true_and]

variable {t}

theorem after_zero (he : t.tac.getLsbD 2 = true) (hs : t.signal = t.level) : t.after 0 = t := by
  have hsys : BitVec.ofNat 16 (t.ticks 0) = t.sys := BitVec.ofNat_toNat ..
  have htima : BitVec.ofNat 8 (t.tima.toNat + t.edges 0) = t.tima := by simp [edges, ticks]
  have hsignal : (t.ticks 0).testBit (selectedIndex t.tac) = t.signal := by
    rw [← selectedBit_ticks, hsys, hs, level, he, Bool.true_and]
  rw [after, hsys, htima, hsignal]

/-- One more bus cycle, in which TIMA counts a falling edge if there is one (R621). -/
theorem advance_after {m : Nat} (he : t.tac.getLsbD 2 = true) (hp : t.reloadPending = false)
    (hover : t.tima.toNat + t.edges (m + 1) < 256) : (t.after m).advance = t.after (m + 1) := by
  have hsys : (t.after m).nextSys = BitVec.ofNat 16 (t.ticks (m + 1)) := (BitVec.ofNat_add _ 4).symm
  have hsignal : (t.after m).nextSignal = (t.ticks (m + 1)).testBit (selectedIndex t.tac) := by
    rw [nextSignal, hsys]
    show (t.tac.getLsbD 2 && selectedBit t.tac _) = _
    rw [he, Bool.true_and, selectedBit_ticks]
  have hedges : t.edges (m + 1) = t.edges m + (t.after m).falls.toNat := by
    rw [edges_succ, falls, hsignal]
    rfl
  have hreloaded : (t.after m).reloaded = BitVec.ofNat 8 (t.tima.toNat + t.edges m) := reloaded_of_not_pending hp
  have hcount : (if (t.after m).falls then (t.after m).reloaded + 1 else (t.after m).reloaded) =
      BitVec.ofNat 8 (t.tima.toNat + t.edges (m + 1)) := by
    rw [hedges, hreloaded]
    cases (t.after m).falls with
    | false => rfl
    | true => exact (BitVec.ofNat_add _ 1).symm
  have hnone : ((t.after m).falls && (t.after m).reloaded == 0xFF) = false := by
    rw [hreloaded]
    cases hf : (t.after m).falls with
    | false => rfl
    | true =>
      rw [hf, Bool.toNat_true] at hedges
      refine (Bool.true_and _).trans (beq_eq_false_iff_ne.mpr fun hfull => ?_)
      have hvalue : (BitVec.ofNat 8 (t.tima.toNat + t.edges m)).toNat = 255 := congrArg BitVec.toNat hfull
      rw [BitVec.toNat_ofNat] at hvalue
      omega
  rw [advance, hsys, hcount, hsignal, hnone, ← hp]
  rfl

/-- An enabled timer while the CPU does nothing, as long as TIMA does not overflow. -/
theorem elapse_after {s : State} {m : Nat} (he : s.timer.tac.getLsbD 2 = true) (hs : s.timer.signal = s.timer.level)
    (hp : s.timer.reloadPending = false) (hover : s.timer.tima.toNat + s.timer.edges m < 256) :
    (elapse m s).timer = s.timer.after m := by
  induction m with
  | zero => exact (after_zero he hs).symm
  | succ m ih =>
    have hle := s.timer.edges_succ m
    rw [elapse_succ, tick_timer, ih (by omega), advance_after he hp hover]

end Timer

/-- Settles O37: TIMA counts the carries out of the selected bit, of which `n` periods have `n`. -/
theorem timerRate : Obligations.TimerRate := by
  unfold Obligations.TimerRate
  intro s n he hs hp hover period
  have hedges : s.timer.edges (n * period) = n := s.timer.edges_periods n
  rw [Timer.elapse_after he hs hp (by rwa [hedges])]
  show BitVec.ofNat 8 (s.timer.tima.toNat + s.timer.edges (n * period)) = _
  rw [hedges, BitVec.ofNat_add, BitVec.ofNat_toNat, BitVec.setWidth_eq]

end Sys2Proof.Machine
end


section
/-! The joypad and the collaborators' requests (R630, R631, R635): the lines bit by bit, and the device phase field by field. -/

namespace Sys2Proof.Machine

/-- A line is low where a key of a selected group is pressed (R630). -/
theorem getLsbD_joypadLines (sel keys : Byte) (i : Fin 4) : (joypadLines sel keys).getLsbD i.val =
    !((!sel.getLsbD 4 && keys.getLsbD i.val) || (!sel.getLsbD 5 && keys.getLsbD (4 + i.val))) := by
  rw [joypadLines, BitVec.getLsbD_not, decide_eq_true i.isLt, Bool.true_and, BitVec.getLsbD_or]
  cases sel.getLsbD 4 <;> cases sel.getLsbD 5 <;> simp [i.isLt]

/-- The select register holds one of four values (R62). -/
theorem joypadSelect_cases {sel : Byte} (h : sel &&& 0xCF = 0) : sel ∈ [(0x00 : Byte), 0x10, 0x20, 0x30] := by
  revert sel; decide

/-- P1's low nibble is the lines, its high nibble the select bits below two ones (R630). -/
theorem p1_bits {sel : Byte} (h : sel &&& 0xCF = 0) (v : BitVec 4) :
    (∀ i : Fin 4, (0xC0 ||| sel ||| v.setWidth 8 : Byte).getLsbD i.val = v.getLsbD i.val) ∧
      (0xC0 ||| sel ||| v.setWidth 8 : Byte) &&& 0xF0 = 0xC0 ||| sel := by
  have hbits : ∀ sel ∈ [(0x00 : Byte), 0x10, 0x20, 0x30], ∀ v : BitVec 4,
      (∀ i : Fin 4, (0xC0 ||| sel ||| v.setWidth 8 : Byte).getLsbD i.val = v.getLsbD i.val) ∧
        (0xC0 ||| sel ||| v.setWidth 8 : Byte) &&& 0xF0 = 0xC0 ||| sel := by decide
  exact hbits sel (joypadSelect_cases h) v

/-! ## The device phase -/

/-- IF after the device phase: JOYPAD on an edge, then the three collaborators' requests (R631, R635). -/
theorem getLsbD_devicePhase_flags (s : State) (j : Fin 5) : (devicePhase s).intr.flags.getLsbD j.val = true ↔
    s.intr.flags.getLsbD j.val = true ∨ (j = 4 ∧ keyEdge s = true) ∨
      ((j = 0 ∨ j = 1 ∨ j = 3) ∧ s.env.extIrq.getLsbD j.val = true) := by
  have hjoypad : ∀ j : Fin 5, (0b10000 : BitVec 5).getLsbD j.val = true ↔ j = 4 := by decide
  have hothers : ∀ j : Fin 5, (0b01011 : BitVec 5).getLsbD j.val = true ↔ j = 0 ∨ j = 1 ∨ j = 3 := by decide
  rw [devicePhase_intr_flags, collaboratorRequests, BitVec.getLsbD_or, BitVec.getLsbD_and, Bool.or_eq_true, Bool.and_eq_true,
    hothers, and_comm (b := _ ∨ _)]
  cases keyEdge s with
  | true => rw [if_pos rfl, BitVec.getLsbD_or, Bool.or_eq_true, hjoypad, or_assoc, and_iff_left rfl]
  | false => simp

/-- The run state after the device phase: a stopped CPU wakes on an edge (R614, R631). -/
theorem devicePhase_run (s : State) :
    (devicePhase s).eng.run = if keyEdge s = true ∧ s.eng.run = .stopped then .running else s.eng.run := by
  unfold devicePhase
  cases s.eng.run <;> simp

/-- Settles O38: P1 by its bits, and the device phase by the three fields it changes. -/
theorem joypadAndRequests : Obligations.JoypadAndRequests := by
  unfold Obligations.JoypadAndRequests
  intro s hsel line edge t
  have hline (i : Fin 4) : (lines s).getLsbD i.val = line i := getLsbD_joypadLines s.joy.sel s.env.keys i
  have hedge : keyEdge s = true ↔ edge := by
    rw [keyEdge_iff]
    exact exists_congr fun i => and_congr_right fun _ => by rw [← hline i]; rfl
  obtain ⟨hlow, hhigh⟩ := p1_bits hsel (lines s)
  refine ⟨⟨fun i => (hlow i).trans (hline i), hhigh⟩, fun j => ?_, hline, fun h => ?_, fun h => ?_, rfl⟩
  · rw [← hedge]
    exact getLsbD_devicePhase_flags s j
  · rw [← hedge] at h
    exact (devicePhase_run s).trans (if_pos h)
  · rw [← hedge] at h
    exact (devicePhase_run s).trans (if_neg h)

end Sys2Proof.Machine
end


section
/-! Loading and reset (R201 to R211, R661): the cartridge of a load that succeeds, its sizes, its ROM and its controller, each from the
three codes of the header, and the state right after reset with it. -/

namespace Sys2Proof.Machine

/-! ## The arrays -/

theorem Memory.read_ofBytes_below {start k : Nat} (bytes : List Byte) (h : k < start) :
    (Memory.ofBytes start bytes).read k = 0 := by
  induction bytes generalizing start with
  | nil => rfl
  | cons b rest ih =>
    have hrest := ih (Nat.lt_succ_of_lt h)
    rw [Memory.ofBytes]
    split
    · exact hrest
    · rw [Memory.read, if_neg (Nat.ne_of_gt h), hrest]

/-- The canonical array of listed bytes holds them from its start on. -/
theorem Memory.read_ofBytes (start k : Nat) (bytes : List Byte) :
    (Memory.ofBytes start bytes).read (start + k) = bytes.getD k 0 := by
  induction bytes generalizing start k with
  | nil => rfl
  | cons b rest ih =>
    rw [Memory.ofBytes]
    cases k with
    | zero =>
      split
      · next h => exact (Memory.read_ofBytes_below rest (Nat.lt_succ_self start)).trans h.symm
      · rw [Memory.read, if_pos (Nat.add_zero start).symm, List.getD_cons_zero]
    | succ k =>
      have hrest := ih (start + 1) k
      rw [Nat.succ_add_eq_add_succ] at hrest
      rw [List.getD_cons_succ]
      split
      · exact hrest
      · rw [Memory.read, if_neg (by omega), hrest]

/-- What holds of the image's array and is kept by writes behind the image, inside the array, holds of the ROM array (R203). -/
theorem romArray_induction {P : Memory → Prop} (image : List Byte) (fill : List Host.Cell) (himage : P (Memory.ofBytes 0 image))
    (hwrite : ∀ m a v, P m → image.length ≤ a → a < maxRomSize → P (m.write a v)) : P (romArray image fill) :=
  List.foldlRecOn fill _ himage fun m hm c _ => by
    split
    · next hc => exact hwrite m c.1 c.2 hm hc.1 hc.2
    · exact hm

/-- The ROM array holds the image (R203). -/
theorem read_romArray {k : Nat} (image : List Byte) (fill : List Host.Cell) (h : k < image.length) :
    (romArray image fill).read k = image.getD k 0 := by
  refine romArray_induction (P := fun m => m.read k = image.getD k 0) image fill ?_ fun m a v hm hlo _ => ?_
  · have himage := Memory.read_ofBytes 0 k image
    rwa [Nat.zero_add] at himage
  · rw [Memory.read_write_other m v (by omega), hm]

theorem romArray_wf {image : List Byte} (fill : List Host.Cell) (h : image.length ≤ maxRomSize) :
    (romArray image fill).wf maxRomSize = true :=
  romArray_induction (P := fun m => m.wf maxRomSize = true) image fill
    (Memory.wfFrom_ofBytes maxRomSize 0 image (by omega)) fun _ a v hm _ hlt => Memory.wf_write a v hm hlt

/-- A property that all listed bytes have holds in the array built from them. -/
theorem Memory.all_ofCells {p : Host.Cell → Bool} (size : Nat) {cells : List Host.Cell} (h : ∀ c ∈ cells, p c = true) :
    (Memory.ofCells size cells).all p = true :=
  List.foldlRecOn (motive := fun m : Memory => m.all p = true) cells _ rfl fun m hm c hc => by
    split
    · exact Memory.all_write c.1 c.2 hm (h c hc)
    · exact hm

/-! ## The bank counts (R205) -/

theorem le_of_half_lt {n k : Nat} (h : k = 0 ∨ 2 ^ (k - 1) < n) : ∀ j, n ≤ 2 ^ j → k ≤ j := by
  intro j hj
  by_contra hlt
  have hpow : 2 ^ j ≤ 2 ^ (k - 1) := Nat.pow_le_pow_right (by decide) (by omega)
  omega

/-- `powerOfTwoAtLeast` is what its name says, for the counts a 4 MiB ROM allows. -/
theorem powerOfTwoAtLeast_spec {n : Nat} (h : n ≤ 256) :
    ∃ k, powerOfTwoAtLeast n = 2 ^ k ∧ n ≤ 2 ^ k ∧ ∀ j, n ≤ 2 ^ j → k ≤ j := by
  have hleast (k : Nat) (hle : n ≤ 2 ^ k) (hlt : k = 0 ∨ 2 ^ (k - 1) < n) :
      ∃ j, 2 ^ k = 2 ^ j ∧ n ≤ 2 ^ j ∧ ∀ i, n ≤ 2 ^ i → j ≤ i := ⟨k, rfl, hle, le_of_half_lt hlt⟩
  unfold powerOfTwoAtLeast
  split_ifs
  · exact hleast 0 (by omega) (by omega)
  · exact hleast 1 (by omega) (by omega)
  · exact hleast 2 (by omega) (by omega)
  · exact hleast 3 (by omega) (by omega)
  · exact hleast 4 (by omega) (by omega)
  · exact hleast 5 (by omega) (by omega)
  · exact hleast 6 (by omega) (by omega)
  · exact hleast 7 (by omega) (by omega)
  · exact hleast 8 (by omega) (by omega)

theorem declaredRomSize_eq_some {c : Byte} {rom : Nat} (h : declaredRomSize c = some rom) :
    c.toNat ≤ 7 ∧ rom = 32768 * 2 ^ c.toNat := by
  unfold declaredRomSize at h
  split at h
  · next hle => exact ⟨hle, (Option.some.inj h).symm⟩
  · cases h

/-- A good ROM has 2 to 256 banks (R203, R205). -/
theorem romBanks_bounds {c : Byte} {rom length : Nat} (hrom : declaredRomSize c = some rom) (hlen : length ≤ maxRomSize) :
    2 ≤ romBanks rom length ∧ romBanks rom length ≤ 256 := by
  obtain ⟨hle, rfl⟩ := declaredRomSize_eq_some hrom
  have hmin : 2 ^ 0 ≤ 2 ^ c.toNat := Nat.pow_le_pow_right (by decide) (Nat.zero_le _)
  have hmax : 2 ^ c.toNat ≤ 2 ^ 7 := Nat.pow_le_pow_right (by decide) hle
  unfold maxRomSize at hlen
  unfold romBanks
  omega

/-- The mask of a ROM of at least two banks keeps bit 0, so the ROM bank after reset is 1 (R205, R240). -/
theorem one_and_romMask {banks : Nat} (h0 : 2 ≤ banks) (h1 : banks ≤ 256) :
    1#8 &&& BitVec.ofNat 8 (powerOfTwoAtLeast banks - 1) = 1#8 := by
  obtain ⟨k, hk, hle, -⟩ := powerOfTwoAtLeast_spec h1
  obtain _ | k := k
  · omega
  · apply BitVec.eq_of_toNat_eq
    rw [hk, BitVec.toNat_and, BitVec.toNat_ofNat, BitVec.toNat_ofNat, Nat.one_and_eq_mod_two]
    omega

/-! ## The three codes of the header -/

/-- The row of a type byte stands in the table under that byte (R209). -/
theorem cartType_eq_some {c : Byte} {t : CartType} (h : cartType c = some t) : t ∈ cartTypes ∧ t.code = c :=
  ⟨List.mem_of_find?_eq_some h, by simpa using List.find?_some h⟩

/-- The type bytes of each column of the table (R209). -/
theorem cartTypes_columns : ∀ t ∈ cartTypes,
    (t.variant = .none → t.code.toNat ∈ [0x00, 0x08, 0x09]) ∧
    (t.variant = .mbc1 → t.code.toNat ∈ [0x01, 0x02, 0x03]) ∧
    (t.variant = .mbc2 ↔ t.code.toNat = 0x05 ∨ t.code.toNat = 0x06) ∧
    (t.variant = .mbc3 → t.code.toNat ∈ [0x0F, 0x10, 0x11, 0x12, 0x13]) ∧
    (t.variant = .mbc5 → t.code.toNat ∈ [0x19, 0x1A, 0x1B, 0x1C, 0x1D, 0x1E]) ∧
    (t.clock = true ↔ t.code.toNat = 0x0F ∨ t.code.toNat = 0x10) ∧
    (t.ramBearing = true ↔ t.code.toNat ∈ [0x02, 0x03, 0x08, 0x09, 0x10, 0x12, 0x13, 0x1A, 0x1B, 0x1D, 0x1E]) := by
  decide

/-- The RAM sizes of R207, by code. -/
def ramSizes : List Nat := [0, 2048, 8192, 32768, 131072, 65536]

theorem declaredRamSize_eq_some {c : Byte} {ram : Nat} (h : declaredRamSize c = some ram) :
    ram = ramSizes.getD c.toNat 0 ∧ (ram = 0 ↔ c.toNat = 0) ∧ ram ≤ 131072 := by
  unfold declaredRamSize at h
  split_ifs at h with h0 h1 h2 h3 h4 h5 <;> obtain rfl := Option.some.inj h
  · subst h0; decide
  · subst h1; decide
  · subst h2; decide
  · subst h3; decide
  · subst h4; decide
  · subst h5; decide

/-- The RAM size is one rule for all variants but MBC2 (R208). -/
theorem ramSizeOf_eq (t : CartType) (declared : Nat) : ramSizeOf t declared =
    if t.variant = .mbc2 then 0 else if t.ramBearing = true ∧ declared = 0 then 8192 else declared := by
  unfold ramSizeOf
  cases t.variant <;> rfl

/-! ## The controller -/

section
variable {q : LoadRequest} {t : CartType} {banks : Nat} {code : Byte}

theorem mbcOf_none (h : t.variant = .none) : mbcOf q t banks code = .none := by rw [mbcOf, h]

theorem mbcOf_mbc1 (h : t.variant = .mbc1) : mbcOf q t banks code = .mbc1 Mbc1.init := by rw [mbcOf, h]

theorem mbcOf_mbc2 (h : t.variant = .mbc2) : mbcOf q t banks code =
    .mbc2 (Mbc2.init (Memory.ofCells 512 (q.cartRamInit.map fun c => (c.1, c.2 &&& 0x0F)))) := by rw [mbcOf, h]

theorem mbcOf_mbc3 (h : t.variant = .mbc3) : mbcOf q t banks code =
    .mbc3 (Mbc3.init (isMbc30 banks code) (powerOfTwoAtLeast banks - 1) (if t.clock then some (clockAtReset q) else none)) := by
  rw [mbcOf, h]

theorem mbcOf_mbc5 (h : t.variant = .mbc5) : mbcOf q t banks code = .mbc5 Mbc5.init := by rw [mbcOf, h]

/-- Without a battery file the clock starts anew (R281). -/
theorem clockAtReset_unsaved (h : q.savedClock = none) : clockAtReset q = Rtc.init q.now := by rw [clockAtReset, h]; rfl

theorem isMbc30_iff : isMbc30 banks code = true ↔ 128 < banks ∨ code.toNat = 5 := by
  rw [isMbc30, Bool.or_eq_true, decide_eq_true_iff, beq_iff_eq, ← BitVec.toNat_inj]
  rfl

/-- The controller at reset is in range (R222, R230, R231, R240, R242). -/
theorem mbcOf_ok : (mbcOf q t banks code).ok (powerOfTwoAtLeast banks - 1) = true := by
  cases h : t.variant with
  | none => rw [mbcOf_none h]; rfl
  | mbc1 => rw [mbcOf_mbc1 h]; rfl
  | mbc5 => rw [mbcOf_mbc5 h]; rfl
  | mbc3 => rw [mbcOf_mbc3 h]; simp [Mbc.ok, Mbc3.init]
  | mbc2 =>
    rw [mbcOf_mbc2 h]
    have hcells : ∀ c ∈ q.cartRamInit.map fun c => (c.1, c.2 &&& 0x0F), (c.2 &&& 0xF0 == 0) = true := by
      intro _ hc
      obtain ⟨c, -, rfl⟩ := List.mem_map.mp hc
      exact beq_iff_eq.mpr (lowNibble_high c.2)
    simp only [Mbc.ok, Mbc2.init, Memory.wf_ofCells, Memory.all_ofCells 512 hcells]
    rfl

end

/-! ## The state after reset -/

/-- What a load that succeeds has found in the header, and the machine it yields (R202, R661). -/
theorem load_eq_some {q : LoadRequest} {image : List Byte} {s : State} (hs : q.stream = some image) (h : (load q).2 = some s) :
    ∃ t rom ram, image.length ≤ maxRomSize ∧ cartType (headerByte image 0x0147) = some t ∧
      declaredRomSize (headerByte image 0x0148) = some rom ∧ declaredRamSize (headerByte image 0x0149) = some ram ∧
      s = bootState q (cartOf q image t rom ram) := by
  have hloaded : loadStatus q = .loaded := (load_isSome_iff q).mp (by rw [h]; rfl)
  have hlen : image.length ≤ maxRomSize := by
    by_contra hbig
    have htooBig := loadStatus_of_tooBig hs (Nat.lt_of_not_le hbig)
    rw [hloaded] at htooBig
    cases htooBig
  obtain ⟨image', t, rom, ram, hs', ht, hrom, hram⟩ := header_of_loaded hloaded
  obtain rfl : image = image' := Option.some.inj (hs.symm.trans hs')
  refine ⟨t, rom, ram, hlen, ht, hrom, hram, ?_⟩
  simpa [load, loadCart, hloaded, hs, ht, hrom, hram, eq_comm] using h

/-- The cartridge of a good image meets the invariant (R65, R203, R205, R207). -/
theorem cartOf_ok {q : LoadRequest} {image : List Byte} {t : CartType} {rom ram : Nat} (hlen : image.length ≤ maxRomSize)
    (hbanks : 2 ≤ romBanks rom image.length ∧ romBanks rom image.length ≤ 256) (hram : ram ≤ 131072) :
    (cartOf q image t rom ram).ok = true := by
  have hsize : ramSizeOf t ram ≤ 131072 := by
    rw [ramSizeOf_eq]
    split_ifs <;> omega
  simp only [Cart.ok, Cart.romMask, cartOf, Bool.and_eq_true]
  exact ⟨⟨⟨⟨⟨decide_eq_true hbanks.1, decide_eq_true hbanks.2⟩, decide_eq_true hsize⟩,
    romArray_wf q.romFill hlen⟩, Memory.wf_ofCells _ _⟩, mbcOf_ok⟩

theorem Joypad.reset_ok : Joypad.reset.ok = true := by decide

/-- Reset with a good cartridge gives a state that can occur (R661). -/
theorem bootState_ok {q : LoadRequest} {c : Cart} (hc : c.ok = true) : (bootState q c).ok = true := by
  have hsys : (q.sys &&& 0xFFFC) &&& 3 = 0 := by
    rw [BitVec.and_assoc]
    simp
  refine (State.ok_iff _).mpr ⟨?_, rfl, ⟨⟨bootState_mem_ok q c, hc⟩, rfl, ?_, Joypad.reset_ok⟩, rfl⟩
  · show LowF (Regs.reset q.params.cgb).f
    cases q.params.cgb <;> rfl
  · exact (Timer.ok_iff _).mpr ⟨(and_three_eq_zero _).mp hsys, nofun⟩

/-- IF reads its three high bits as ones (R54, R69). -/
theorem read8_intFlags_bootState (q : LoadRequest) (c : Cart) : read8 (bootState q c) 0xFF0F = 0xE1 := by
  rw [read8_io _ rfl]
  show (0xE0 ||| Intr.reset.flags.setWidth 8 : Byte) = 0xE1
  decide

/-- Settles O53: memory by its canonical form, everything else by evaluation. -/
theorem resetOk : Obligations.ResetOk := by
  unfold Obligations.ResetOk
  exact (State.ok_iff _).mpr ⟨rfl, rfl, ⟨reset_memoryOk, rfl, rfl, rfl⟩, rfl⟩

/-- Settles O52: a load that succeeds is the reset state with the header's cartridge, of which each part is one of the lemmas above. -/
theorem resetState : Obligations.ResetState := by
  unfold Obligations.ResetState
  intro q image s hs hload romCode ramCode kind clock
  obtain ⟨t, rom, ram, hlen, ht, hrom, hram, rfl⟩ := load_eq_some hs hload
  have hbanks := romBanks_bounds hrom hlen
  obtain ⟨-, hromSize⟩ := declaredRomSize_eq_some hrom
  obtain ⟨hramSize, hramZero, hramMax⟩ := declaredRamSize_eq_some hram
  obtain ⟨hrow, hcode⟩ := cartType_eq_some ht
  obtain ⟨hnone, hmbc1, hmbc2, hmbc3, hmbc5, hclock, hbearing⟩ := cartTypes_columns t hrow
  obtain ⟨k, hk, hle, hleast⟩ := powerOfTwoAtLeast_spec hbanks.2
  rw [hcode] at hnone hmbc1 hmbc2 hmbc3 hmbc5 hclock hbearing
  refine ⟨rfl, rfl, ⟨rfl, rfl, rfl, rfl, rfl, rfl⟩, ⟨rfl, rfl, read8_intFlags_bootState q _⟩,
    ⟨rfl, rfl, rfl, rfl, rfl, rfl⟩, ⟨rfl, rfl, rfl⟩,
    ⟨rfl, rfl, rfl, rfl⟩, fun i later hi => ?_, ⟨?_, ⟨k, ?_, hle, hleast⟩, fun k hk => read_romArray image q.romFill hk⟩, ?_, ?_,
    bootState_ok (cartOf_ok hlen hbanks hramMax)⟩
  · simp [bootState, hi]
  · rw [← hromSize]
    rfl
  · show powerOfTwoAtLeast (romBanks rom image.length) - 1 + 1 = 2 ^ k
    have := Nat.two_pow_pos k
    omega
  · show ramSizeOf t ram = _
    rw [ramSizeOf_eq]
    exact if_congr hmbc2 rfl (if_congr (and_comm.trans (and_congr hramZero hbearing)) rfl hramSize)
  · show match mbcOf q t (romBanks rom image.length) (headerByte image 0x0149) with
      | .none => _
      | .mbc1 m => _
      | .mbc2 m => _
      | .mbc3 m => _
      | .mbc5 m => _
    cases hv : t.variant with
    | none => rw [mbcOf_none hv]; exact hnone hv
    | mbc1 => rw [mbcOf_mbc1 hv]; exact ⟨hmbc1 hv, rfl⟩
    | mbc2 => rw [mbcOf_mbc2 hv]; exact ⟨by simpa using hmbc2.mp hv, rfl, rfl⟩
    | mbc5 => rw [mbcOf_mbc5 hv]; exact ⟨hmbc5 hv, rfl⟩
    | mbc3 =>
      rw [mbcOf_mbc3 hv]
      refine ⟨hmbc3 hv, rfl, rfl, one_and_romMask hbanks.1 hbanks.2, rfl, rfl, ?_, isMbc30_iff, fun hq r hr => ?_⟩
      · show Option.isSome (if t.clock then some (clockAtReset q) else none) = true ↔ _
        rw [← hclock]
        cases t.clock <;> simp
      · have hrtc : (if t.clock then some (clockAtReset q) else none) = some r := hr
        split at hrtc
        · exact (Option.some.inj hrtc).symm.trans (clockAtReset_unsaved hq)
        · cases hrtc

end Sys2Proof.Machine
end
